-- ==== Sys2Proof/Word.lean ====
section
/-! DEFINITION. The two word types of the bus engine: the byte every bus transfer moves (R52, R55) and
the 16-bit command and response words (R70, R71). -/

namespace Sys2Proof

/-- One byte: everything that crosses the bus, and every register of the block (R20). -/
abbrev Byte := BitVec 8

/-- A command word (R70) or a response word (R71). -/
abbrev Word16 := BitVec 16

end Sys2Proof
end

