-- ==== Sys2Proof/Config.lean ====
section
/-! DEFINITION. The implementation parameters `Cfg` of rule R8 and the free values of rule R13. The model
takes `Cfg` as data (State.cfg, log 5), so that a statement over every state is one over every `Cfg`. -/

namespace Sys2Proof

/-- The record `Cfg` of rule R8. SLA_W and SLA_R are derived (Machine/Operands.lean, R73). -/
structure Cfg where
  /-- DEV_ADDR7, the one device the framer addresses (R51). -/
  devAddr7 : BitVec 7
  regPwr : Byte
  regAxisH : Byte
  regAxisL : Byte
  wakeValue : Byte
  failByte : Byte
  /-- NEWLINE, host only (R136, R138). -/
  newline : Byte
  /-- WAIT_MS, host only; no rule of the block depends on it (R133, R195). -/
  waitMs : Nat
  dirWrite : BitVec 1
  dirRead : BitVec 1
  stStart : Byte
  stRepStart : Byte
  stTxAddrAck : Byte
  stTxDataAck : Byte
  stRxAddrAck : Byte
  stRxDataNack : Byte
  stRxDataAck : Byte
  /-- StatusSpace, the "fixed value space" a status code is drawn from (R12). -/
  statusSpace : List Byte
  errOk : Byte
  errStart : Byte
  errAddrAckWrite : Byte
  errDataAck : Byte
  errRepeatedStart : Byte
  errAddrAckRead : Byte
  errDataNack : Byte
  /-- BUS_TIMEOUT: none, there is no bound on a blocking wait (R154); no meaning reads it. -/
  busTimeout : Option Nat
  /-- STARTUP_FAIL_HOST_EMITS, host only, left OPEN by the spec (R132, D21). -/
  startupFailHostEmits : Bool
  deriving DecidableEq, Repr

/-- The values of rule R8. PRESUMED (log 5): the spec takes the status values and the direction bits from
general knowledge and the error values are its own choice. -/
def Cfg.default : Cfg where
  devAddr7 := 0x68#7
  regPwr := 0x6B#8
  regAxisH := 0x3F#8
  regAxisL := 0x40#8
  wakeValue := 0x00#8
  failByte := 0x00#8
  newline := 0x0A#8
  waitMs := 100
  dirWrite := 0#1
  dirRead := 1#1
  stStart := 0x08#8
  stRepStart := 0x10#8
  stTxAddrAck := 0x18#8
  stTxDataAck := 0x28#8
  stRxAddrAck := 0x40#8
  stRxDataNack := 0x58#8
  stRxDataAck := 0x50#8
  statusSpace := [0x00#8, 0x08#8, 0x10#8, 0x18#8, 0x20#8, 0x28#8, 0x30#8, 0x38#8, 0x40#8, 0x48#8,
    0x50#8, 0x58#8, 0xF8#8]
  errOk := 0x00#8
  errStart := 0x01#8
  errAddrAckWrite := 0x02#8
  errDataAck := 0x03#8
  errRepeatedStart := 0x04#8
  errAddrAckRead := 0x05#8
  errDataNack := 0x06#8
  busTimeout := none
  startupFailHostEmits := false

/-- `any8` of rules R11 and R13: the n-th unspecified byte read in a run. No body, so no proof can see
its value (log 6). -/
opaque Config.freeByte : Nat → Byte

end Sys2Proof
end

