-- ==== Sys2Proof/Syntax.lean ====
section
/-! DEFINITION. The commands of rule R70, one constructor for each row of the opcode table, the raw
command word of format C, and the assembly lines of rule R78. -/

namespace Sys2Proof

/-- The eight commands. `v` is the byte to send, `r` the device register address (R72). -/
inductive Instr where
  | start
  | write (v : Byte)
  | readAck
  | readNack
  | stop
  | status
  | wakeup
  | readreg (r : Byte)
  deriving DecidableEq, Repr

/-- A command word of format C, by its two fields (R70), before it is known to spell a command. -/
structure CommandWord where
  op : Byte
  arg : Byte
  deriving DecidableEq, Repr

/-- The mnemonic of rule R70. -/
def Instr.mnemonic : Instr → String
  | .start => "START"
  | .write _ => "WRITE"
  | .readAck => "READ_ACK"
  | .readNack => "READ_NACK"
  | .stop => "STOP"
  | .status => "STATUS"
  | .wakeup => "WAKEUP"
  | .readreg _ => "READREG"

/-- An operand of rule R78: a byte, or the name of a parameter of `Cfg`. -/
inductive AsmOperand where
  | lit (v : Byte)
  | slaW
  | slaR
  | regPwr
  | wakeValue
  | regAxisH
  | regAxisL
  deriving DecidableEq, Repr

/-- One assembly line of rule R78. -/
inductive AsmLine where
  | start
  | write (v : AsmOperand)
  | readAck
  | readNack
  | stop
  | status
  | wakeup
  | readreg (r : AsmOperand)
  deriving DecidableEq, Repr

end Sys2Proof
end

