-- ==== Sys2Proof/WellFormed.lean ====
section
/-! DEFINITION. What is well formed: a raw command word (R70, R75), an instruction (its operands are bytes
by type), and a `Cfg` (R9). Every check is a Bool. -/

namespace Sys2Proof

/-- The eight operation codes of rule R70; every other one is reserved (R75). -/
def CommandWord.opKnown (c : CommandWord) : Bool :=
  [0x01#8, 0x02#8, 0x03#8, 0x04#8, 0x05#8, 0x06#8, 0x10#8, 0x11#8].contains c.op

/-- Only WRITE and READREG have an operand; elsewhere `arg` must be 0x00 (R70). -/
def CommandWord.argAllowed (c : CommandWord) : Bool :=
  c.op == 0x02#8 || c.op == 0x11#8 || c.arg == 0x00#8

/-- The word spells a command: it is not reserved (R75). -/
def CommandWord.wf (c : CommandWord) : Bool :=
  c.opKnown && c.argAllowed

/-- An instruction's operands are whole bytes by their type (R72), so every instruction is well formed;
the checks that can fail are those of `CommandWord.wf`. -/
def Instr.wf : Instr → Bool
  | .start => true
  | .write _ => true
  | .readAck => true
  | .readNack => true
  | .stop => true
  | .status => true
  | .wakeup => true
  | .readreg _ => true

/-- The seven named status codes of rule R9. -/
def Cfg.namedStatuses (c : Cfg) : List Byte :=
  [c.stStart, c.stRepStart, c.stTxAddrAck, c.stTxDataAck, c.stRxAddrAck, c.stRxDataNack, c.stRxDataAck]

/-- The seven error codes of rule R9, in the source's order (R76). -/
def Cfg.errorCodes (c : Cfg) : List Byte :=
  [c.errOk, c.errStart, c.errAddrAckWrite, c.errDataAck, c.errRepeatedStart, c.errAddrAckRead,
    c.errDataNack]

def Cfg.statusesDistinct (c : Cfg) : Bool := decide c.namedStatuses.Nodup

def Cfg.statusesInSpace (c : Cfg) : Bool := c.namedStatuses.all (c.statusSpace.contains ·)

def Cfg.errorsDistinct (c : Cfg) : Bool := decide c.errorCodes.Nodup

def Cfg.directionsDistinct (c : Cfg) : Bool := c.dirWrite != c.dirRead

/-- The constraints of rule R9. -/
def Cfg.valid (c : Cfg) : Bool :=
  c.statusesDistinct && c.statusesInSpace && c.errorsDistinct && c.directionsDistinct

end Sys2Proof
end

