-- ==== Sys2Proof/Decode.lean ====
section
/-! DEFINITION. The decoder of rules R74 and R75, total on every 16-bit word, the encoder of rule R70, the
mask and match table of rule R74, and the assembler of rule R78. -/

namespace Sys2Proof

/-- Why a word spells no command (R75). -/
inductive Invalid where
  /-- the operation code is reserved -/
  | opcode (op : Byte)
  /-- the command has no operand and `arg` is not 0x00 -/
  | argument (op arg : Byte)
  deriving DecidableEq, Repr

/-- What the decoder answers (R75: "it returns `invalid` for a reserved word"). -/
inductive Decoded where
  | ok (i : Instr)
  | invalid (why : Invalid)
  deriving DecidableEq, Repr

/-- `op = w[15:8]` (R74). -/
def opField (w : Word16) : Byte := w.extractLsb' 8 8

/-- `arg = w[7:0]` (R74). -/
def argField (w : Word16) : Byte := w.extractLsb' 0 8

/-- The two fields of a command word (R70). -/
def wordFields (w : Word16) : CommandWord := ⟨opField w, argField w⟩

/-- A command without operand: `arg` must be 0x00 (R70, R75). -/
def noOperand (c : CommandWord) (i : Instr) : Decoded :=
  if c.arg = 0x00#8 then .ok i else .invalid (.argument c.op c.arg)

/-- The selection of rule R74 on the fields. -/
def decodeFields (c : CommandWord) : Decoded :=
  if c.op = 0x01#8 then noOperand c .start
  else if c.op = 0x02#8 then .ok (.write c.arg)
  else if c.op = 0x03#8 then noOperand c .readAck
  else if c.op = 0x04#8 then noOperand c .readNack
  else if c.op = 0x05#8 then noOperand c .stop
  else if c.op = 0x06#8 then noOperand c .status
  else if c.op = 0x10#8 then noOperand c .wakeup
  else if c.op = 0x11#8 then .ok (.readreg c.arg)
  else .invalid (.opcode c.op)

/-- The decoder. -/
def decode (w : Word16) : Decoded := decodeFields (wordFields w)

/-- The operation code of rule R70. -/
def opcode : Instr → Byte
  | .start => 0x01#8
  | .write _ => 0x02#8
  | .readAck => 0x03#8
  | .readNack => 0x04#8
  | .stop => 0x05#8
  | .status => 0x06#8
  | .wakeup => 0x10#8
  | .readreg _ => 0x11#8

/-- The operand byte of rule R70, 0x00 where the command has none. -/
def operand : Instr → Byte
  | .start => 0x00#8
  | .write v => v
  | .readAck => 0x00#8
  | .readNack => 0x00#8
  | .stop => 0x00#8
  | .status => 0x00#8
  | .wakeup => 0x00#8
  | .readreg r => r

/-- The encoder: `op` in bits 15:8, `arg` in bits 7:0 (R70). -/
def encode (i : Instr) : Word16 := opcode i ++ operand i

/-- One row of the table of rule R74. -/
structure OpcodeRow where
  mask : Word16
  pattern : Word16
  build : Byte → Instr

def OpcodeRow.hits (r : OpcodeRow) (w : Word16) : Bool := w &&& r.mask == r.pattern

/-- The table of rule R74, a second reading of the encoding beside `decodeFields`. -/
def opcodeRows : List OpcodeRow :=
  [⟨0xFFFF#16, 0x0100#16, fun _ => .start⟩,
   ⟨0xFF00#16, 0x0200#16, .write⟩,
   ⟨0xFFFF#16, 0x0300#16, fun _ => .readAck⟩,
   ⟨0xFFFF#16, 0x0400#16, fun _ => .readNack⟩,
   ⟨0xFFFF#16, 0x0500#16, fun _ => .stop⟩,
   ⟨0xFFFF#16, 0x0600#16, fun _ => .status⟩,
   ⟨0xFFFF#16, 0x1000#16, fun _ => .wakeup⟩,
   ⟨0xFF00#16, 0x1100#16, .readreg⟩]

/-- The word whose low `nbits` bits are those of `w` and whose other bits are 0. -/
def tableWord (nbits w : Nat) : Word16 := BitVec.ofNat 16 (w % 2 ^ nbits)

/-- The instruction the decoder reads from a row of the opcode table with the bits `w`. -/
def decodeTableWord (nbits w : Nat) : Option Instr :=
  if nbits ≤ 16 then
    match decode (tableWord nbits w) with
    | .ok i => some i
    | .invalid _ => none
  else none

/-- The address byte `(a7 << 1) | dir` of rule R73: the 7-bit address in bits 7:1, the direction in
bit 0. PRESUMED by the spec (D6, G3; log 14). -/
def addrByte (a7 : BitVec 7) (dir : BitVec 1) : Byte := a7 ++ dir

/-- SLA_W of rule R8. -/
def Cfg.slaW (c : Cfg) : Byte := addrByte c.devAddr7 c.dirWrite

/-- SLA_R of rule R8. -/
def Cfg.slaR (c : Cfg) : Byte := addrByte c.devAddr7 c.dirRead

/-- The byte an operand of rule R78 names. -/
def operandByte (c : Cfg) : AsmOperand → Byte
  | .lit v => v
  | .slaW => c.slaW
  | .slaR => c.slaR
  | .regPwr => c.regPwr
  | .wakeValue => c.wakeValue
  | .regAxisH => c.regAxisH
  | .regAxisL => c.regAxisL

/-- The command an assembly line of rule R78 stands for. -/
def assemble (c : Cfg) : AsmLine → Instr
  | .start => .start
  | .write v => .write (operandByte c v)
  | .readAck => .readAck
  | .readNack => .readNack
  | .stop => .stop
  | .status => .status
  | .wakeup => .wakeup
  | .readreg r => .readreg (operandByte c r)

end Sys2Proof
end

