-- ==== Sys2Proof/Machine/State.lean ====
section
/-! DEFINITION. The state of the bus engine: the record `S` of 10_state.md, the response register of R40,
the agents around the block (R15) as plain data, and the state after reset (R44). -/

namespace Sys2Proof.Machine

/-- Where the engine stands in a bus session (R24). -/
inductive Phase where
  | idle
  | addr
  | mt
  | mr
  | mrEnd
  deriving DecidableEq, Repr

/-- A blocking primitive (R33): `read true` is READ 1 (READ_ACK), `read false` is READ 0 (READ_NACK). -/
inductive Prim where
  | start
  | write (v : Byte)
  | read (ack : Bool)
  deriving DecidableEq, Repr

/-- What a written byte is on the bus (R31, R100). -/
inductive WriteKind where
  | addrW
  | addrR
  | data
  deriving DecidableEq, Repr

/-- The bus events of rule R31. -/
inductive BusEvent where
  | start (rep : Bool) (st : Byte)
  | write (kind : WriteKind) (v st : Byte)
  | read (b : Byte) (ack : Bool) (st : Byte)
  | stop (wasOpen : Bool)
  deriving DecidableEq, Repr

/-- The status register: "8 bits, member of StatusSpace or unspecified" (R26). Being unspecified is the
spec's own state of this element, entered by reset and by STOP; a read of it then is a free value (log 6). -/
inductive StatusReg where
  | code (st : Byte)
  | unspecified
  deriving DecidableEq, Repr

/-- The framer sequence in progress (R28). -/
inductive FSeq where
  | none
  | wakeup
  | readreg
  deriving DecidableEq, Repr

/-- The closed set ErrorCode of rules R17 and R76, in the source's order. -/
inductive ErrorCode where
  | ok
  | failureStart
  | failureAddrAckWrite
  | failureDataAck
  | failureRepeatedStart
  | failureAddrAckRead
  | failureDataNack
  deriving DecidableEq, Repr

/-- An answer of the bus environment (R12). `stall`: the bus never signals completion. `wait`: it has not
answered yet and will be asked again (R91, "any finite time may pass"). `done st b`: completion with the
status `st` and, for a read, the byte `b`, which START and WRITE do not read (log 1, log 2). -/
inductive BusAnswer where
  | stall
  | wait
  | done (st b : Byte)
  deriving DecidableEq, Repr

/-- One entry of the merged history (R60; log 8): a bus event (R31), a byte handed to the sink (R32), a
response word (R71), a value read through the register view (R40), the start of the sink (R132). -/
inductive Obs where
  | bus (e : BusEvent)
  | sink (b : Byte)
  | response (w : Word16)
  | regRead (off : Nat) (v : Word16)
  | sinkInit
  deriving DecidableEq, Repr

/-- Who makes an access: the host, held while BUSY = 1, or "an observer other than the host (a test
bench)" (R41). -/
inductive Requester where
  | host
  | bench
  deriving DecidableEq, Repr

/-- What the outside asks of the block (R40, R141, R180). `idle` asks nothing and lets one step pass. -/
inductive Access where
  | write (off : Nat) (v : Word16)
  | read (off : Nat)
  | reset
  | idle
  deriving DecidableEq, Repr

structure Request where
  requester : Requester
  access : Access
  deriving DecidableEq, Repr

/-- The states of the polling loop (R131) with the startup phase and HALT of rule R132: `boot` before the
sink's `init()`, `startup` before the response of WAKEUP. -/
inductive PollState where
  | boot
  | startup
  | wait
  | readHigh
  | readLow
  | sendHigh
  | sendLow
  | sendNewline
  | error
  | halt
  deriving DecidableEq, Repr

/-- The polling loop's state (R131): the sample (HIGH, LOW), and whether it waits for a response. -/
structure PollHost where
  pc : PollState
  high : Byte
  low : Byte
  waiting : Bool
  deriving DecidableEq, Repr

/-- The polling loop after a full restart (R132, R183). -/
def PollHost.boot : PollHost := ⟨.boot, 0x00#8, 0x00#8, false⟩

/-- The whole state. The first group is the spec's record `S` and RSP; the second is the configuration
and the agents around the block. -/
structure State where
  /-- S.DATA (R21) -/
  data : Byte
  /-- S.STATUS (R26) -/
  status : StatusReg
  /-- S.DONE (R23) -/
  done : Bool
  /-- S.PHASE (R24) -/
  phase : Phase
  /-- S.INFLIGHT (R33) -/
  inflight : Option Prim
  /-- S.FSEQ (R28) -/
  fseq : FSeq
  /-- S.FSTEP (R27) -/
  fstep : Nat
  /-- S.FREG (R29) -/
  freg : Byte
  /-- S.FERR (R30), by name; its byte is `errByte cfg ferr` (log 22) -/
  ferr : ErrorCode
  /-- S.FBYTE (R30) -/
  fbyte : Byte
  /-- RSP (R40, R71) -/
  rsp : Word16
  /-- S.BUS and S.SINK in one merged history (R31, R32, R60; log 8), oldest first -/
  trace : List Obs
  /-- Cfg (R8), constant (log 5) -/
  cfg : Cfg
  /-- the answers to come from the bus environment (R12; log 1), next one first -/
  env : List BusAnswer
  /-- how many free values have been read (R13; log 6); the model's own -/
  draws : Nat
  /-- the accesses to come from the host and the test bench (R40, R141; log 10), next one first -/
  requests : List Request
  /-- the repository's polling loop, where it is the host (R130; log 24) -/
  poll : Option PollHost
  deriving DecidableEq, Repr

/-- Why the machine stops with a fault. -/
inductive Fault where
  /-- Raised by resuming a framer sequence whose FSEQ, FSTEP and INFLIGHT do not agree (R28, R37). Safe:
  no state that meets `State.Inv` raises it, and no run reaches another (log 23). -/
  | framerOutOfStep
  deriving DecidableEq, Repr

/-- Why a command or an access has no meaning (R14, R153). Each is safe: the model stops where the spec
gives no behaviour (log 11). -/
inductive Refusal where
  /-- Raised by exec for an instruction that has no meaning yet; none is left. Safe. -/
  | notModelled (mnemonic : String)
  /-- Raised by every command issued while BUSY = 1 (U7, R90). Safe. -/
  | busy
  /-- Raised by WRITE with no session open (U1, R97). Safe. -/
  | writeOutsideSession
  /-- Raised by WRITE in a read-mode session (U2, R97). Safe. -/
  | writeWhileReading
  /-- Raised by READ_ACK and READ_NACK with no session, after a start or in a write-mode session (U3, R97). Safe. -/
  | readOutsideReadSession
  /-- Raised by READ_ACK and READ_NACK after the not-acknowledged byte (U4, R97). Safe. -/
  | readAfterNack
  /-- Raised by a write of a reserved word to CMD (U8, R75). Safe. -/
  | reservedWord (w : Word16)
  /-- Raised by a read of CMD (U9, R40). Safe. -/
  | readOfCmd
  /-- Raised by a write to RSP, STATUS, DATA, FLAGS or RESULT (U9, R40). Safe. -/
  | readOnlyRegister (off : Nat)
  /-- Raised by an access at offset 6 or above (U9, R40). Safe. -/
  | noSuchRegister (off : Nat)
  deriving DecidableEq, Repr

/-- The state after reset (R44, R181), with the default `Cfg` of R8. DATA and FREG are unspecified by the
spec and 0x00 here: DESIGN CHOICE (log 7). -/
def State.reset : State where
  data := 0x00#8
  status := .unspecified
  done := false
  phase := .idle
  inflight := none
  fseq := .none
  fstep := 0
  freg := 0x00#8
  ferr := .ok
  fbyte := 0x00#8
  rsp := 0x0000#16
  trace := []
  cfg := Cfg.default
  env := []
  draws := 0
  requests := []
  poll := none

end Sys2Proof.Machine
end

