-- ==== Sys2Proof/Machine/Operands.lean ====
section
/-! DEFINITION. The operand and word forms of the block: the direction bit and device of an address byte
(R73), response words (R71), error bytes (R76), the nominal status of a primitive (R94). -/

namespace Sys2Proof.Machine

/-- The direction `v[0]` of an address byte (R73). -/
def direction (v : Byte) : BitVec 1 := v.extractLsb' 0 1

/-- The device `v[7:1]` of an address byte (R51, R73). -/
def device (v : Byte) : BitVec 7 := v.extractLsb' 1 7

/-- The response word `code[15:8] byte[7:0]` (R71). -/
def responseWord (code byte : Byte) : Word16 := code ++ byte

/-- The `code` field of a response word (R71). -/
def responseCode (w : Word16) : Byte := w.extractLsb' 8 8

/-- The `byte` field of a response word (R71). -/
def responseByte (w : Word16) : Byte := w.extractLsb' 0 8

/-- The parameter ERR_* of an error code (R76). -/
def errByte (c : Cfg) : ErrorCode → Byte
  | .ok => c.errOk
  | .failureStart => c.errStart
  | .failureAddrAckWrite => c.errAddrAckWrite
  | .failureDataAck => c.errDataAck
  | .failureRepeatedStart => c.errRepeatedStart
  | .failureAddrAckRead => c.errAddrAckRead
  | .failureDataNack => c.errDataNack

/-- What WRITE `v` puts on the bus in phase `p`: in ADDR an address byte of its direction, else data
(R100). -/
def writeKind (c : Cfg) (v : Byte) (p : Phase) : WriteKind :=
  if p = .addr then (if direction v = c.dirRead then .addrR else .addrW) else .data

/-- The nominal status of rule R94; none where the combination is refused. -/
def nominalStatus (c : Cfg) : Prim → Phase → Option Byte
  | .start, .idle => some c.stStart
  | .start, _ => some c.stRepStart
  | .write v, .addr => some (if direction v = c.dirRead then c.stRxAddrAck else c.stTxAddrAck)
  | .write _, .mt => some c.stTxDataAck
  | .read true, .mr => some c.stRxDataAck
  | .read false, .mr => some c.stRxDataNack
  | _, _ => none

end Sys2Proof.Machine
end

