-- ==== Sys2Proof/Machine/Flags.lean ====
section
/-! DEFINITION. The derived flags SESSION and BUSY (R25, R35), the FLAGS byte (R41) and the RESULT word
(R40). -/

namespace Sys2Proof.Machine

/-- S.SESSION: a session is open (R25). -/
def State.session (s : State) : Bool := s.phase != .idle

/-- S.BUSY: the host is inside a blocking call (R35). -/
def State.busy (s : State) : Bool := s.inflight.isSome || s.fseq != .none

/-- The PHASE field of FLAGS (R41). -/
def phaseBits : Phase → BitVec 3
  | .idle => 0#3
  | .addr => 1#3
  | .mt => 2#3
  | .mr => 3#3
  | .mrEnd => 4#3

/-- The FSEQ field of FLAGS (R41). -/
def fseqBits : FSeq → BitVec 2
  | .none => 0#2
  | .wakeup => 1#2
  | .readreg => 2#2

/-- FLAGS: FSEQ in bits 7:6, PHASE in 5:3, BUSY, SESSION and DONE in bits 2, 1 and 0 (R41). -/
def flagsByte (s : State) : Byte :=
  fseqBits s.fseq ++ phaseBits s.phase ++ BitVec.ofBool s.busy ++ BitVec.ofBool s.session ++
    BitVec.ofBool s.done

/-- RESULT: `S.FERR ++ S.FBYTE` (R40). -/
def resultWord (s : State) : Word16 := responseWord (errByte s.cfg s.ferr) s.fbyte

end Sys2Proof.Machine
end

