-- ==== Sys2Proof/Machine/Ops.lean ====
section
/-! DEFINITION. The shared operations: the histories, the status register's read, responses, the issue and
completion of a primitive (R91), stalls (R92), the stop (R103), the framer's checked steps (R111), its
failure exit (R160) and its stop step, and the resumption of a held command. -/

namespace Sys2Proof.Machine

/-- What a meaning answers. -/
abbrev Result := Host.Outcome State Fault Refusal

/-- Apply `f` to the next state of an outcome. -/
def thenNext (o : Result) (f : State → State) : Result :=
  match o with
  | .next s => .next (f s)
  | .fault r => .fault r
  | .refused r => .refused r

/-! ### Histories (R31, R32, R60) -/

/-- The bus event of a history entry. -/
def Obs.busEvent? : Obs → Option BusEvent
  | .bus e => some e
  | _ => none

/-- The sink byte of a history entry. -/
def Obs.sinkByte? : Obs → Option Byte
  | .sink b => some b
  | _ => none

/-- The response word of a history entry. -/
def Obs.response? : Obs → Option Word16
  | .response w => some w
  | _ => none

/-- S.BUS (R31). -/
def State.bus (s : State) : List BusEvent := s.trace.filterMap Obs.busEvent?

/-- S.SINK (R32). -/
def State.sink (s : State) : List Byte := s.trace.filterMap Obs.sinkByte?

/-- The responses delivered so far (R16). -/
def State.responses (s : State) : List Word16 := s.trace.filterMap Obs.response?

/-- Append one entry to the merged history (R60). -/
def record (e : Obs) (s : State) : State := { s with trace := s.trace ++ [e] }

/-- `SinkSend(b)` (R11, R32); it always completes (R61; log 17). -/
def sinkSend (b : Byte) (s : State) : State := record (.sink b) s

/-- Deliver a response word: RSP holds it (R71). -/
def deliver (w : Word16) (s : State) : State := record (.response w) { s with rsp := w }

/-! ### The status register (R26) -/

/-- A read of S.STATUS: the code, or a free value where it is unspecified (R26, R104; log 6). -/
def readStatus (s : State) : Byte × State :=
  match s.status with
  | .code st => (st, s)
  | .unspecified => (Config.freeByte s.draws, { s with draws := s.draws + 1 })

/-- Respond with the status code and `byte`; each blocking primitive and STATUS form their response so
(R71, R104). -/
def respondStatus (byte : Byte) (s : State) : State :=
  deliver (responseWord (readStatus s).1 byte) (readStatus s).2

/-! ### Primitives (R91 to R97) -/

/-- `next_phase(op, p)` of rule R93; the phase itself in the refused cells, which are never completed. -/
def nextPhase (c : Cfg) : Prim → Phase → Phase
  | .start, _ => .addr
  | .write v, .addr => if direction v = c.dirRead then .mr else .mt
  | .write _, p => p
  | .read true, p => p
  | .read false, .mr => .mrEnd
  | .read false, p => p

/-- The refused cells of rules R93 and R97, by name (U1 to U4); none where `admitted(op, p)`. -/
def refusalOf : Prim → Phase → Option Refusal
  | .start, _ => none
  | .write _, .idle => some .writeOutsideSession
  | .write _, .addr => none
  | .write _, .mt => none
  | .write _, .mr => some .writeWhileReading
  | .write _, .mrEnd => some .writeWhileReading
  | .read _, .idle => some .readOutsideReadSession
  | .read _, .addr => some .readOutsideReadSession
  | .read _, .mt => some .readOutsideReadSession
  | .read _, .mr => none
  | .read _, .mrEnd => some .readAfterNack

/-- The event a primitive logs when it completes, by the phase of its issue (R31, R99 to R102). -/
def eventOf (c : Cfg) (p : Phase) (st b : Byte) : Prim → BusEvent
  | .start => .start (p != .idle) st
  | .write v => .write (writeKind c v p) v st
  | .read ack => .read b ack st

/-- S.DATA as WRITE loads it at issue (R21). -/
def dataAtIssue (op : Prim) (d : Byte) : Byte :=
  match op with
  | .start => d
  | .write v => v
  | .read _ => d

/-- S.DATA as a read loads it at completion (R21). -/
def dataAtCompletion (op : Prim) (b d : Byte) : Byte :=
  match op with
  | .start => d
  | .write _ => d
  | .read _ => b

/-- `issue(op)` of rule R91. -/
def issue (op : Prim) (s : State) : State :=
  { s with data := dataAtIssue op s.data, done := false, inflight := some op }

/-- `complete(op)` of rule R91 on the answer `Done(st, b)`, without the response. -/
def complete (op : Prim) (st b : Byte) (s : State) : State :=
  record (.bus (eventOf s.cfg s.phase st b op))
    { s with
      data := dataAtCompletion op b s.data
      status := .code st
      phase := nextPhase s.cfg op s.phase
      inflight := none
      done := true }

/-- What asking the bus environment once comes to. -/
inductive Progress where
  /-- the primitive is still in flight and its caller held (R92) -/
  | held (s : State)
  /-- the primitive has completed (R91) -/
  | completed (s : State)

/-- `BusAsk(op)` for the primitive in flight (R11, R12). A `stall` stays at the head of `env`, so the
primitive never completes (R92); with no answer left it is not answered either; a `wait` is used up and
the question is put again at the next step (log 1, log 4). -/
def askBus (op : Prim) (s : State) : Progress :=
  match s.env with
  | [] => .held s
  | .stall :: _ => .held s
  | .wait :: rest => .held { s with env := rest }
  | .done st b :: rest => .completed (complete op st b { s with env := rest })

/-- The `byte` field of a blocking primitive's response (R71): the byte received, else 0x00. -/
def primByte (op : Prim) (s : State) : Byte :=
  match op with
  | .start => 0x00#8
  | .write _ => 0x00#8
  | .read _ => s.data

/-- Wait for a primitive the host issued, and respond when it completes (R91). -/
def awaitForHost (op : Prim) (s : State) : Result :=
  match askBus op s with
  | .held t => .next t
  | .completed t => .next (respondStatus (primByte op t) t)

/-- Run `k` where a command may be issued: BUSY = 0, else the command is refused (R90, U7). -/
def whenReady (s : State) (k : Result) : Result :=
  if s.busy then .refused .busy else k

/-- A blocking primitive commanded by the host: admitted or refused (R97), issued, awaited (R91). -/
def hostPrimitive (op : Prim) (s : State) : Result :=
  whenReady s <|
    match refusalOf op s.phase with
    | some r => .refused r
    | none => awaitForHost op (issue op s)

/-- STOP (R103): logged at issue, the phase IDLE, the status unspecified. -/
def stopBus (s : State) : State :=
  record (.bus (.stop (s.phase != .idle))) { s with phase := .idle, status := .unspecified }

/-! ### The framer (R110 to R123, R160) -/

/-- One checked step of a framer sequence: primitive, expected status, error code on a mismatch (R111),
and whether a match moves S.DATA to S.FBYTE (R113, step 6). -/
structure FramerRow where
  op : Prim
  expected : Byte
  err : ErrorCode
  capture : Bool
  deriving DecidableEq, Repr

/-- The checked steps of WAKEUP (R112). -/
def wakeupRows (c : Cfg) : List FramerRow :=
  [⟨.start, c.stStart, .failureStart, false⟩,
   ⟨.write c.slaW, c.stTxAddrAck, .failureAddrAckWrite, false⟩,
   ⟨.write c.regPwr, c.stTxDataAck, .failureDataAck, false⟩,
   ⟨.write c.wakeValue, c.stTxDataAck, .failureDataAck, false⟩]

/-- The checked steps of READREG with S.FREG = `r` (R113). -/
def readregRows (c : Cfg) (r : Byte) : List FramerRow :=
  [⟨.start, c.stStart, .failureStart, false⟩,
   ⟨.write c.slaW, c.stTxAddrAck, .failureAddrAckWrite, false⟩,
   ⟨.write r, c.stTxDataAck, .failureDataAck, false⟩,
   ⟨.start, c.stRepStart, .failureRepeatedStart, false⟩,
   ⟨.write c.slaR, c.stRxAddrAck, .failureAddrAckRead, false⟩,
   ⟨.read false, c.stRxDataNack, .failureDataNack, true⟩]

/-- The checked steps of the sequence in progress. -/
def framerRows (s : State) : List FramerRow :=
  match s.fseq with
  | .none => []
  | .wakeup => wakeupRows s.cfg
  | .readreg => readregRows s.cfg s.freg

/-- The stop step of a sequence (R27): 5 for WAKEUP, 7 for READREG. -/
def stopStep : FSeq → Nat
  | .none => 0
  | .wakeup => 5
  | .readreg => 7

/-- Accepting a framer command (R110). -/
def accept (q : FSeq) (s : State) : State :=
  { s with fseq := q, fstep := 1, ferr := .ok, fbyte := s.cfg.failByte }

/-- After a matching check (R111): the next step, and S.FBYTE where the step captures (R113). -/
def passed (r : FramerRow) (s : State) : State :=
  { s with fstep := s.fstep + 1, fbyte := if r.capture then s.data else s.fbyte }

/-- Parts 1 and 2 of the failure exit (R160): record the code, jump to the stop step. -/
def mismatch (c : ErrorCode) (s : State) : State :=
  { s with ferr := c, fstep := stopStep s.fseq }

/-- The response word of a framer command (R71): READREG carries S.FBYTE, WAKEUP 0x00. -/
def framerResponse (s : State) : Word16 :=
  responseWord (errByte s.cfg s.ferr) (if s.fseq = .readreg then s.fbyte else 0x00#8)

/-- `SinkSend(S.FERR)` on the failure path only (R160, part 4). -/
def reportFailure (s : State) : State :=
  if s.ferr = .ok then s else sinkSend (errByte s.cfg s.ferr) s

/-- The framer at rest again (R27, R28). -/
def release (s : State) : State := { s with fseq := .none, fstep := 0 }

/-- The response of a framer command and its end (R116, R118). -/
def respondFramer (s : State) : State := release (deliver (framerResponse s) s)

/-- The stop step and the response, shared by the success and the failure path (R116, R118, R160). -/
def finish (s : State) : State := respondFramer (reportFailure (stopBus s))

/-- The check of rule R111 on an asked primitive: match, go on with `k`; first mismatch, the failure
exit (R160); not completed, the framer is held (R122). -/
def checkRow (r : FramerRow) (k : State → Result) : Progress → Result
  | .held t => .next t
  | .completed t => if t.status = .code r.expected then k (passed r t) else .next (finish (mismatch r.err t))

/-- The framer from one of its steps on: issue, ask, check (R111), and after the last row the stop step. -/
def runRows : List FramerRow → State → Result
  | [], s => .next (finish s)
  | r :: rs, s =>
    match refusalOf r.op s.phase with
    | some q => .refused q
    | none => checkRow r (runRows rs) (askBus r.op (issue r.op s))

/-- Start an accepted framer command at its first step. -/
def runFramer (s : State) : Result := runRows (framerRows s) s

/-- The rows from step S.FSTEP on; none where no such step is checked. -/
def rowsFromStep (s : State) : List FramerRow :=
  if s.fstep = 0 then [] else (framerRows s).drop (s.fstep - 1)

/-- Go on with a framer sequence whose primitive `op` is in flight (R111, R122). -/
def resumeFramer (op : Prim) (s : State) : Result :=
  match rowsFromStep s with
  | [] => .fault .framerOutOfStep
  | r :: rs => if r.op = op then checkRow r (runRows rs) (askBus op s) else .fault .framerOutOfStep

/-- Go on with a framer sequence between two steps: the step S.FSTEP is issued next (R111). -/
def continueFramer (s : State) : Result :=
  if s.fstep = 0 ∨ stopStep s.fseq < s.fstep then .fault .framerOutOfStep else runRows (rowsFromStep s) s

/-- The block's own next move: nothing where BUSY = 0 (R181), else the command in progress goes on. -/
def resume (s : State) : Result :=
  match s.inflight, s.fseq with
  | none, .none => .next s
  | none, _ => continueFramer s
  | some op, .none => awaitForHost op s
  | some op, _ => resumeFramer op s

/-- A full restart (R180, R181): every element of `S` and RSP as after reset; `Cfg`, the environment's
coming answers, the outside's coming accesses and the count of free values stay; the polling loop, where
there is one, starts again (log 12). -/
def restart (s : State) : State :=
  { State.reset with
    cfg := s.cfg
    env := s.env
    draws := s.draws
    requests := s.requests
    poll := s.poll.map fun _ => PollHost.boot }

end Sys2Proof.Machine
end

