-- ==== Sys2Proof/Machine/Framer.lean ====
section
/-! DEFINITION. The meanings of the two framer commands (41_framer.md). -/

namespace Sys2Proof.Machine

/-- WAKEUP: device wake-up, a one-byte register write (R112, R116). -/
def execWakeup (s : State) : Result := whenReady s (runFramer (accept .wakeup s))

/-- READREG r: single-register read; S.FREG latches `r` when the command is accepted (R29, R113, R118). -/
def execReadreg (r : Byte) (s : State) : Result :=
  whenReady s (runFramer (accept .readreg { s with freg := r }))

end Sys2Proof.Machine
end

