-- ==== Sys2Proof/Machine/Primitives.lean ====
section
/-! DEFINITION. The meanings of the six primitives (40_primitives.md). -/

namespace Sys2Proof.Machine

/-- START: start and repeated-start generator (R99). -/
def execStart (s : State) : Result := hostPrimitive .start s

/-- WRITE v: byte serialiser and ack/nack detector (R100). -/
def execWrite (v : Byte) (s : State) : Result := hostPrimitive (.write v) s

/-- READ_ACK: byte deserialiser, acknowledging (R101). -/
def execReadAck (s : State) : Result := hostPrimitive (.read true) s

/-- READ_NACK: byte deserialiser, not acknowledging (R102). -/
def execReadNack (s : State) : Result := hostPrimitive (.read false) s

/-- STOP: stop generator, in one step, no response (R103). -/
def execStop (s : State) : Result := whenReady s (.next (stopBus s))

/-- STATUS: status inspector, in one step (R104). -/
def execStatus (s : State) : Result := whenReady s (.next (respondStatus 0x00#8 s))

end Sys2Proof.Machine
end

