-- ==== Sys2Proof/Machine/Dispatch.lean ====
section
/-! DEFINITION. One arm for each command of rule R70. -/

namespace Sys2Proof.Machine

def exec (i : Instr) (s : State) : Host.Outcome State Fault Refusal :=
  match i with
  | .start => Sys2Proof.Machine.execStart s
  | .write v => Sys2Proof.Machine.execWrite v s
  | .readAck => Sys2Proof.Machine.execReadAck s
  | .readNack => Sys2Proof.Machine.execReadNack s
  | .stop => Sys2Proof.Machine.execStop s
  | .status => Sys2Proof.Machine.execStatus s
  | .wakeup => Sys2Proof.Machine.execWakeup s
  | .readreg r => Sys2Proof.Machine.execReadreg r s

end Sys2Proof.Machine
end

