-- ==== Sys2Proof/Machine/Interface.lean ====
section
/-! DEFINITION. The register view of rules R40 and R41: what an access at an offset does. -/

namespace Sys2Proof.Machine

/-- A read at an offset of R40: the value, zero-extended to 16 bits, and the state. The state differs only
where STATUS is unspecified, by the count of free values (log 6). -/
def readInterface (off : Nat) (s : State) : Host.Outcome (Word16 × State) Fault Refusal :=
  match off with
  | 0 => .refused .readOfCmd
  | 1 => .next (s.rsp, s)
  | 2 => .next ((readStatus s).1.setWidth 16, (readStatus s).2)
  | 3 => .next (s.data.setWidth 16, s)
  | 4 => .next ((flagsByte s).setWidth 16, s)
  | 5 => .next (resultWord s, s)
  | _ => .refused (.noSuchRegister off)

/-- A read, its value put in the history as what the reader saw. -/
def serveRead (off : Nat) (s : State) : Result :=
  match readInterface off s with
  | .next (v, t) => .next (record (.regRead off v) t)
  | .fault r => .fault r
  | .refused r => .refused r

/-- A command word written to CMD: the command it spells is issued, a reserved word refused (R40, R74,
R75). -/
def issueWord (w : Word16) (s : State) : Result :=
  match decode w with
  | .ok i => exec i s
  | .invalid _ => .refused (.reservedWord w)

/-- A write at an offset of R40. -/
def serveWrite (off : Nat) (v : Word16) (s : State) : Result :=
  match off with
  | 0 => issueWord v s
  | 1 => .refused (.readOnlyRegister off)
  | 2 => .refused (.readOnlyRegister off)
  | 3 => .refused (.readOnlyRegister off)
  | 4 => .refused (.readOnlyRegister off)
  | 5 => .refused (.readOnlyRegister off)
  | _ => .refused (.noSuchRegister off)

end Sys2Proof.Machine
end

