-- ==== Sys2Proof/Machine/Polling.lean ====
section
/-! DEFINITION. The repository's host, the polling loop of 42_host_polling.md (R130 to R140). It stands
outside the block (R6) and uses it only through WAKEUP, READREG and the sink. -/

namespace Sys2Proof.Machine

/-- The loop with a new state of its own. -/
def setPoll (p : PollHost) (s : State) : State := { s with poll := some p }

/-- The loop goes to the state `pc`. -/
def goto (pc : PollState) (p : PollHost) (s : State) : State := setPoll { p with pc := pc } s

/-- What the loop does with a response word in the state `p.pc`: the transitions of rules R132, R134 and
R135 (the intended semantics of R137). A failed wake-up sends one more byte only where
STARTUP_FAIL_HOST_EMITS says so. -/
def pollResponse (w : Word16) (p : PollHost) (s : State) : State :=
  let q := { p with waiting := false }
  if responseCode w = s.cfg.errOk then
    match p.pc with
    | .startup => goto .wait q s
    | .readHigh => goto .readLow { q with high := responseByte w } s
    | .readLow => goto .sendHigh { q with low := responseByte w } s
    | _ => setPoll q s
  else
    match p.pc with
    | .startup =>
      goto .halt q (if s.cfg.startupFailHostEmits then sinkSend (responseCode w) s else s)
    | .readHigh => goto .error q s
    | .readLow => goto .error q s
    | _ => setPoll q s

/-- After a move of the block: where the loop waits and the block is no longer busy, the loop takes the
response (R141). -/
def pollTake (s : State) : State :=
  match s.poll with
  | none => s
  | some p => if p.waiting && !s.busy then pollResponse s.rsp p s else s

/-- The loop issues a framer command and is held until its response (R130). -/
def pollIssue (i : Instr) (p : PollHost) (s : State) : Result :=
  thenNext (exec i (setPoll { p with waiting := true } s)) pollTake

/-- One transition of the loop (R130, R132 to R138), taken where BUSY = 0. -/
def pollStep (p : PollHost) (s : State) : Result :=
  match p.pc with
  | .boot => .next (goto .startup p (record .sinkInit s))
  | .startup => pollIssue .wakeup p s
  | .wait => .next (goto .readHigh { p with high := 0x00#8, low := 0x00#8 } s)
  | .readHigh => pollIssue (.readreg s.cfg.regAxisH) p s
  | .readLow => pollIssue (.readreg s.cfg.regAxisL) p s
  | .sendHigh => .next (goto .sendLow p (sinkSend p.high s))
  | .sendLow => .next (goto .sendNewline p (sinkSend p.low s))
  | .sendNewline => .next (goto .wait p (sinkSend s.cfg.newline s))
  | .error => .next (sinkSend s.cfg.newline s)
  | .halt => .next s

/-- One step with no request from outside: the command in progress goes on; else the polling loop, where
there is one, takes a transition; else the block does nothing (R181). -/
def advance (s : State) : Result :=
  if s.busy then thenNext (resume s) pollTake
  else
    match s.poll with
    | none => .next s
    | some p => pollStep p s

end Sys2Proof.Machine
end

