-- ==== Sys2Proof/Machine/Step.lean ====
section
/-! DEFINITION. One step of the machine, and a command word placed where the step takes its next one. -/

namespace Sys2Proof.Machine

/-- A host's request waits while the host is held (R90); a test bench's is served at once (R41). -/
def Request.waits (r : Request) (s : State) : Bool := r.requester == .host && s.busy

/-- Serve one access (R40, R141, R180). -/
def serve (a : Access) (s : State) : Result :=
  match a with
  | .write off v => serveWrite off v s
  | .read off => serveRead off s
  | .reset => .next (restart s)
  | .idle => advance s

/-- One step: the next access that need not wait is served, else the machine advances (R15). A command
word written to CMD runs here from its issue to its response, or until it is held (R56, R91; log 3). -/
def step (s : State) : Host.Outcome State Fault Refusal :=
  match s.requests with
  | [] => advance s
  | r :: rest => if r.waits s then advance s else serve r.access { s with requests := rest }

/-- `s` with a command word as the host's next write to CMD (log 25). -/
def State.withFetchWord (s : State) (nbits w : Nat) : State :=
  { s with requests := ⟨.host, .write 0 (tableWord nbits w)⟩ :: s.requests }

end Sys2Proof.Machine
end

