-- ==== Sys2Proof/Safety.lean ====
section
/-! DEFINITION. The terms claims are stated in: the bus history replayed as a session automaton (R24, R37),
the state invariant (R37), statuses within StatusSpace (R12), a bus that does not stall (R92, R94), counts
over the bus history (R123), and the host that issues the framer's primitives itself (R79). -/

namespace Sys2Proof.Machine

/-! ### The bus history as a session automaton -/

/-- One bus event from the phase `p`: the phase after it, or none where the event cannot happen in `p`
(R31, R93). -/
def replayEvent (c : Cfg) (p : Phase) (e : BusEvent) : Option Phase :=
  match e with
  | .start rep _ => if rep = (p != .idle) then some .addr else none
  | .write kind v _ =>
    if refusalOf (.write v) p = none ∧ kind = writeKind c v p then some (nextPhase c (.write v) p) else none
  | .read _ ack _ =>
    if refusalOf (.read ack) p = none then some (nextPhase c (.read ack) p) else none
  | .stop wasOpen => if wasOpen = (p != .idle) then some .idle else none

/-- A bus history from the phase `p`. -/
def replay (c : Cfg) (p : Phase) : List BusEvent → Option Phase
  | [] => some p
  | e :: es => (replayEvent c p e).bind fun q => replay c q es

/-! ### The state invariant -/

/-- Whether the phase `p` is one the framer can have in step `k` (R112, R113): any in step 1, since the
framer does not look at S.PHASE before it starts (R121). -/
def framerPhase : FSeq → Nat → Phase → Bool
  | .none, _, _ => true
  | .wakeup, 1, _ => true
  | .wakeup, 2, p => p == .addr
  | .wakeup, 3, p => p == .mt
  | .wakeup, 4, p => p == .mt
  | .readreg, 1, _ => true
  | .readreg, 2, p => p == .addr
  | .readreg, 3, p => p == .mt
  | .readreg, 4, p => p == .mt
  | .readreg, 5, p => p == .addr
  | .readreg, 6, p => p == .mr
  | _, _, _ => false

/-- A held framer waits for the primitive of its own step, with nothing recorded yet (R122). -/
def framerHeld (s : State) : Prop :=
  (∃ r rs, rowsFromStep s = r :: rs ∧ s.inflight = some r.op) ∧
    framerPhase s.fseq s.fstep s.phase = true ∧ s.ferr = .ok ∧ s.fbyte = s.cfg.failByte

/-- The invariant of the reachable states at step boundaries. R37 (a), (b) and (e) are `stepZero`,
`doneLow` and `failByte`; (c) holds by the type of `ferr`; (f) is part of `busReplays`. -/
structure State.Inv (s : State) : Prop where
  stepZero : s.fseq = .none ↔ s.fstep = 0
  doneLow : s.inflight ≠ none → s.done = false
  admitted : ∀ op, s.inflight = some op → refusalOf op s.phase = none
  framer : s.fseq ≠ .none → framerHeld s
  failByte : s.ferr ≠ .ok → s.fbyte = s.cfg.failByte
  busReplays : replay s.cfg .idle s.bus = some s.phase
  statusKnown : s.status = .unspecified ↔ s.phase = .idle

/-- A status register that is unspecified or holds a member of StatusSpace (R26). -/
def statusInSpace (c : Cfg) : StatusReg → Prop
  | .code st => st ∈ c.statusSpace
  | .unspecified => True

/-- An answer whose status is a member of StatusSpace (R12). -/
def answerInSpace (c : Cfg) : BusAnswer → Prop
  | .done st _ => st ∈ c.statusSpace
  | .stall => True
  | .wait => True

/-- The status of a bus event, where it has one. -/
def eventStatus? : BusEvent → Option Byte
  | .start _ st => some st
  | .write _ _ st => some st
  | .read _ _ st => some st
  | .stop _ => none

/-- Every status seen and to come is a member of StatusSpace (R12, R26, R76). -/
structure State.StatusSafe (s : State) : Prop where
  register : statusInSpace s.cfg s.status
  answers : ∀ a ∈ s.env, answerInSpace s.cfg a
  history : ∀ e ∈ s.bus, ∀ st, eventStatus? e = some st → st ∈ s.cfg.statusSpace

/-! ### What the environment does -/

/-- An answer that completes the primitive asked. -/
def BusAnswer.completes : BusAnswer → Bool
  | .done _ _ => true
  | .stall => false
  | .wait => false

/-- The next `n` answers are there and complete: the bus does not stall them (R195). -/
def completesNext (n : Nat) (s : State) : Prop :=
  n ≤ s.env.length ∧ ∀ a ∈ s.env.take n, a.completes = true

/-- The primitive asked next is not completed now: there is no answer, a `wait` or a `stall`. -/
def notAnswered (s : State) : Prop := ∀ st b rest, s.env ≠ .done st b :: rest

/-- The state of a caller held by `op` (R92): a `wait` is used up, nothing else happens. -/
def holdState (s : State) : State :=
  match s.env with
  | .wait :: rest => { s with env := rest }
  | _ => s

/-! ### Whether a command runs -/

/-- The refusal of a command issued in the phase `p` with BUSY = 0 (R97); none for those admitted. -/
def commandRefusal : Instr → Phase → Option Refusal
  | .start, _ => none
  | .write v, p => refusalOf (.write v) p
  | .readAck, p => refusalOf (.read true) p
  | .readNack, p => refusalOf (.read false) p
  | .stop, _ => none
  | .status, _ => none
  | .wakeup, _ => none
  | .readreg _, _ => none

/-! ### Counts over the bus history -/

def isFirstStart : BusEvent → Bool
  | .start rep _ => !rep
  | _ => false

def isRepeatedStart : BusEvent → Bool
  | .start rep _ => rep
  | _ => false

def isStop : BusEvent → Bool
  | .stop _ => true
  | _ => false

def isAddressByte : BusEvent → Bool
  | .write kind _ _ => kind != .data
  | _ => false

def isDataByte : BusEvent → Bool
  | .write kind _ _ => kind == .data
  | _ => false

def isReadByte : BusEvent → Bool
  | .read _ _ _ => true
  | _ => false

/-- The bus events a command has added: what follows the history it started from. -/
def newEvents (before after : State) : List BusEvent := after.bus.drop before.bus.length

/-- The history entries a command has added. -/
def newTrace (before after : State) : List Obs := after.trace.drop before.trace.length

/-! ### The end of a failed framer command -/

/-- The state after a framer command that started from `s` and failed with the code `c`, field by field
(R151, R160): `d` the last byte moved, `byte` the response's byte, `rest` the answers left, `evs` the bus
events before the stop. The stop stands before the error byte, the error byte before the response. -/
def failedState (s : State) (c : ErrorCode) (d byte : Byte) (rest : List BusAnswer)
    (evs : List BusEvent) : State :=
  { s with
    data := d
    done := true
    status := .unspecified
    phase := .idle
    fstep := 0
    ferr := c
    fbyte := s.cfg.failByte
    rsp := errByte s.cfg c ++ byte
    env := rest
    trace := s.trace ++ (evs.map .bus ++
      [.bus (.stop true), .sink (errByte s.cfg c), .response (errByte s.cfg c ++ byte)]) }

/-! ### The host that issues the framer's primitives itself (R79) -/

/-- The commands of the WAKEUP expansion with the status each must return (R79, R112). -/
def wakeupByHost (c : Cfg) : List (Instr × Byte) :=
  [(.start, c.stStart), (.write c.slaW, c.stTxAddrAck), (.write c.regPwr, c.stTxDataAck),
   (.write c.wakeValue, c.stTxDataAck)]

/-- The commands of the READREG expansion with the status each must return (R79, R113). -/
def readregByHost (c : Cfg) (r : Byte) : List (Instr × Byte) :=
  [(.start, c.stStart), (.write c.slaW, c.stTxAddrAck), (.write r, c.stTxDataAck),
   (.start, c.stRepStart), (.write c.slaR, c.stRxAddrAck), (.readNack, c.stRxDataNack)]

/-- A host that issues the commands in order, compares each status, and stops after the last or after
the first that is not the expected one (R79, R185, R189). A host held by a command goes no further. -/
def hostSequence : List (Instr × Byte) → State → Result
  | [], s => exec .stop s
  | (i, e) :: rest, s =>
    match exec i s with
    | .next t =>
      if t.busy then .next t
      else if t.status = .code e then hostSequence rest t
      else exec .stop t
    | .fault r => .fault r
    | .refused r => .refused r

end Sys2Proof.Machine
end

