-- ==== Sys2Proof/Certificates/Slice0/Obligations.lean ====
section
/-! DEFINITION. The statements for the provers. Each docstring names the rules of spec/ it formalises. -/

open Sys2Proof Sys2Proof.Machine

/-! ### Encoding -/

/-- R70, R74, R75: a word decodes to a command exactly if it is that command's encoding. The encoding is
the spec's own choice (D7; log 13). -/
def Obligations.DecodeInvertsEncode : Prop :=
  ∀ (w : Word16) (i : Instr), decode w = .ok i ↔ (i.wf = true ∧ encode i = w)

/-- R74: the decoder selects the row of the mask and match table that the word hits, and no word hits two. -/
def Obligations.DecoderFollowsMaskMatchTable : Prop :=
  (∀ (w : Word16) (i : Instr), decode w = .ok i ↔
    ∃ r ∈ opcodeRows, w &&& r.mask = r.pattern ∧ i = r.build (argField w)) ∧
  opcodeRows.Pairwise fun r q => ∀ w : Word16, ¬ (w &&& r.mask = r.pattern ∧ w &&& q.mask = q.pattern)

/-- R75: the reserved words are exactly those with another operation code or with an argument the
operation does not have; each is invalid and its issue refused. -/
def Obligations.ReservedWordsAreRefused : Prop :=
  ∀ (w : Word16) (s : State),
    (opField w ∉ [0x01#8, 0x02#8, 0x03#8, 0x04#8, 0x05#8, 0x06#8, 0x10#8, 0x11#8] ∨
      (opField w ∈ [0x01#8, 0x03#8, 0x04#8, 0x05#8, 0x06#8, 0x10#8] ∧ argField w ≠ 0x00#8)) ↔
    ((∃ why, decode w = .invalid why) ∧ issueWord w s = .refused (.reservedWord w))

/-- R70, R74: eight words written out bit by bit, one for each command. -/
def Obligations.WrittenOutWordsDecode : Prop :=
  decode 0b0000000100000000#16 = .ok .start ∧
  decode 0b0000001010100101#16 = .ok (.write 0xA5#8) ∧
  decode 0b0000001100000000#16 = .ok .readAck ∧
  decode 0b0000010000000000#16 = .ok .readNack ∧
  decode 0b0000010100000000#16 = .ok .stop ∧
  decode 0b0000011000000000#16 = .ok .status ∧
  decode 0b0001000000000000#16 = .ok .wakeup ∧
  decode 0b0001000101000000#16 = .ok (.readreg 0x40#8)

/-- R73, R98 (a): the address byte is `(a7 << 1) | dir`, from which the device and the direction are read
back; the framer's two bytes. The layout is the spec's, from general knowledge (D6; log 14). -/
def Obligations.AddressByteLayout : Prop :=
  (∀ (a7 : BitVec 7) (dir : BitVec 1),
    addrByte a7 dir = ((a7.setWidth 8 <<< 1) ||| dir.setWidth 8) ∧
    device (addrByte a7 dir) = a7 ∧ direction (addrByte a7 dir) = dir) ∧
  (∀ c : Cfg, c.slaW = addrByte c.devAddr7 c.dirWrite ∧ c.slaR = addrByte c.devAddr7 c.dirRead) ∧
  Cfg.default.slaW = 0xD0#8 ∧ Cfg.default.slaR = 0xD1#8

/-! ### Steps -/

/-- R40, R56, R90: where BUSY = 0 and the next request writes a word to CMD that decodes to a command, the
step is that command's meaning in the state without the request. (The queue of requests is log 10.) -/
def Obligations.StepRunsTheDecodedCommand : Prop :=
  ∀ (s : State) (who : Requester) (w : Word16) (rest : List Request) (i : Instr),
    s.busy = false → s.requests = ⟨who, .write 0 w⟩ :: rest → decode w = .ok i →
    step s = exec i { s with requests := rest }

/-- The model's placing of a command word (log 25): the next step runs it. -/
def Obligations.PlacedWordRunsNext : Prop :=
  ∀ (s : State) (i : Instr), s.busy = false →
    step (s.withFetchWord 16 (encode i).toNat) = exec i s

/-- R90, R91: the host is held while BUSY = 1, so that none of its requests is served then: the machine goes
on as if there were none. That requests stand in a queue, and that a host's reset waits in it too (R180 has
a reset in any state; a test bench's is one), is the model's choice, log 10. -/
def Obligations.HostRequestWaitsWhileBusy : Prop :=
  ∀ (s : State) (a : Access) (rest : List Request),
    s.busy = true → s.requests = ⟨.host, a⟩ :: rest → step s = advance s

/-- R90: a command issued while BUSY = 1 is refused, whichever it is. -/
def Obligations.BusyRefusesEveryCommand : Prop :=
  ∀ (s : State) (i : Instr), s.busy = true → exec i s = .refused .busy

/-! ### The primitives: completion, result and frame in one equation each -/

/-- R99, R91, R71: START on a completing bus. Every field not named is unchanged. (The list of answers and the
one step are logs 1 and 3.) -/
def Obligations.StartCompletes : Prop :=
  ∀ (s : State) (st b : Byte) (rest : List BusAnswer),
    s.busy = false → s.env = .done st b :: rest →
    exec .start s = .next { s with
      done := true
      status := .code st
      phase := .addr
      rsp := st ++ 0x00#8
      env := rest
      trace := s.trace ++ [.bus (.start (s.phase != .idle) st), .response (st ++ 0x00#8)] }

/-- R100, R91, R71: WRITE of an address byte and of a data byte on a completing bus (logs 1 and 3). -/
def Obligations.WriteCompletes : Prop :=
  ∀ (s : State) (v st b : Byte) (rest : List BusAnswer),
    s.busy = false → s.env = .done st b :: rest →
    (s.phase = .addr → exec (.write v) s = .next { s with
      data := v
      done := true
      status := .code st
      phase := if v.extractLsb' 0 1 = s.cfg.dirRead then .mr else .mt
      rsp := st ++ 0x00#8
      env := rest
      trace := s.trace ++
        [.bus (.write (if v.extractLsb' 0 1 = s.cfg.dirRead then .addrR else .addrW) v st),
         .response (st ++ 0x00#8)] }) ∧
    (s.phase = .mt → exec (.write v) s = .next { s with
      data := v
      done := true
      status := .code st
      phase := .mt
      rsp := st ++ 0x00#8
      env := rest
      trace := s.trace ++ [.bus (.write .data v st), .response (st ++ 0x00#8)] })

/-- R101, R91, R71: READ_ACK on a completing bus; the phase stays MR (logs 1 and 3). -/
def Obligations.ReadAckCompletes : Prop :=
  ∀ (s : State) (st b : Byte) (rest : List BusAnswer),
    s.busy = false → s.phase = .mr → s.env = .done st b :: rest →
    exec .readAck s = .next { s with
      data := b
      done := true
      status := .code st
      phase := .mr
      rsp := st ++ b
      env := rest
      trace := s.trace ++ [.bus (.read b true st), .response (st ++ b)] }

/-- R102, R91, R71: READ_NACK on a completing bus; the read is at its end (logs 1 and 3). -/
def Obligations.ReadNackCompletes : Prop :=
  ∀ (s : State) (st b : Byte) (rest : List BusAnswer),
    s.busy = false → s.phase = .mr → s.env = .done st b :: rest →
    exec .readNack s = .next { s with
      data := b
      done := true
      status := .code st
      phase := .mrEnd
      rsp := st ++ b
      env := rest
      trace := s.trace ++ [.bus (.read b false st), .response (st ++ b)] }

/-- R103: STOP, in every phase and whatever the bus would answer. -/
def Obligations.StopCompletes : Prop :=
  ∀ s : State, s.busy = false →
    exec .stop s = .next { s with
      status := .unspecified
      phase := .idle
      trace := s.trace ++ [.bus (.stop (s.phase != .idle))] }

/-- R104, R71, R26: STATUS responds with the code, which RSP then holds, and changes nothing else; where the
status is unspecified it responds with some byte, of which nothing is said. The counter `draws` of such
bytes, and that this clause advances it, is the model's choice, log 6. -/
def Obligations.StatusCompletes : Prop :=
  ∀ s : State, s.busy = false →
    (∀ st, s.status = .code st → exec .status s = .next { s with
      rsp := st ++ 0x00#8
      trace := s.trace ++ [.response (st ++ 0x00#8)] }) ∧
    (s.status = .unspecified → ∃ v : Byte, exec .status s = .next { s with
      rsp := v ++ 0x00#8
      trace := s.trace ++ [.response (v ++ 0x00#8)]
      draws := s.draws + 1 })

/-- R93: the phase after each command, for every status the bus answers; the refused cells refuse. -/
def Obligations.PhaseTransitionsFollowTable : Prop :=
  ∀ (s : State) (st b : Byte) (rest : List BusAnswer),
    s.busy = false → s.cfg.valid = true → s.env = .done st b :: rest →
    (∃ t, exec .start s = .next t ∧ t.phase = .addr) ∧
    (∀ v, s.phase = .addr → direction v = s.cfg.dirWrite → ∃ t, exec (.write v) s = .next t ∧ t.phase = .mt) ∧
    (∀ v, s.phase = .addr → direction v = s.cfg.dirRead → ∃ t, exec (.write v) s = .next t ∧ t.phase = .mr) ∧
    (∀ v, s.phase = .mt → ∃ t, exec (.write v) s = .next t ∧ t.phase = .mt) ∧
    (∀ v, s.phase = .idle ∨ s.phase = .mr ∨ s.phase = .mrEnd → ∃ q, exec (.write v) s = .refused q) ∧
    (s.phase = .mr → ∃ t, exec .readAck s = .next t ∧ t.phase = .mr) ∧
    (s.phase = .mr → ∃ t, exec .readNack s = .next t ∧ t.phase = .mrEnd) ∧
    (s.phase ≠ .mr → (∃ q, exec .readAck s = .refused q) ∧ ∃ q, exec .readNack s = .refused q) ∧
    (∃ t, exec .stop s = .next t ∧ t.phase = .idle) ∧
    (∃ t, exec .status s = .next t ∧ t.phase = s.phase)

/-- R97, and for WAKEUP and READREG, which run in every phase, R116, R118, R121: which commands run in which
phase, whatever the bus answers. The others are refused (U1 to U4); the names of the refusals are the
model's choice, log 11. -/
def Obligations.CommandsRunExactlyWhereAdmitted : Prop :=
  ∀ s : State, s.busy = false → s.cfg.valid = true →
    (∀ i : Instr, (∃ t, exec i s = .next t) ↔
      (∀ v, i = .write v → s.phase = .addr ∨ s.phase = .mt) ∧
      (i = .readAck ∨ i = .readNack → s.phase = .mr)) ∧
    (∀ v, s.phase = .idle → exec (.write v) s = .refused .writeOutsideSession) ∧
    (∀ v, s.phase = .mr ∨ s.phase = .mrEnd → exec (.write v) s = .refused .writeWhileReading) ∧
    (∀ i, i = .readAck ∨ i = .readNack →
      (s.phase = .idle ∨ s.phase = .addr ∨ s.phase = .mt → exec i s = .refused .readOutsideReadSession) ∧
      (s.phase = .mrEnd → exec i s = .refused .readAfterNack))

/-- R92: a stalled block keeps INFLIGHT, DONE = 0, PHASE, STATUS and every other register at every step,
with no event and no response, and is left only by a reset: whatever is asked of it next, a step that serves
no reset leaves all of it but the requests and the record of a test bench's read. Every command is refused,
and so a test bench's write. That a stalled step answers the same state, where R14 says a stall has no next
state, is the model's choice, log 4; that a host's request, a reset too, waits in a queue is log 10. -/
def Obligations.StalledBlockIsHeldForEver : Prop :=
  ∀ (s : State) (op : Prim) (rest : List BusAnswer),
    s.Inv → s.inflight = some op → s.env = .stall :: rest →
    s.done = false ∧
    (s.requests = [] → step s = .next s) ∧
    (∀ a more, s.requests = ⟨.host, a⟩ :: more → step s = .next s) ∧
    (∀ i, exec i s = .refused .busy) ∧
    (∀ more, s.requests = ⟨.bench, .idle⟩ :: more → step s = .next { s with requests := more }) ∧
    (∀ off more, s.requests = ⟨.bench, .read off⟩ :: more → 1 ≤ off → off ≤ 5 →
      ∃ t, step s = .next t) ∧
    (∀ off v more, s.requests = ⟨.bench, .write off v⟩ :: more → ∃ q, step s = .refused q) ∧
    (∀ t, step s = .next t → (∀ more, s.requests ≠ ⟨.bench, .reset⟩ :: more) →
      { t with trace := s.trace, draws := s.draws, requests := s.requests } = s ∧
      t.bus = s.bus ∧ t.sink = s.sink ∧ t.responses = s.responses) ∧
    (∀ more, s.requests = ⟨.bench, .reset⟩ :: more →
      ∃ t, step s = .next t ∧ t.busy = false ∧ t.phase = .idle)

/-- R91, R92, R111: a bus that has not answered holds the command; whatever answers come later, the next
step ends as the command would have ended had they come at once. For every command that is held, with no
further request and no polling loop (PollWaitingDoesNotChangeTheResult is the loop's). The answers as a list
and the whole command in one step are logs 1 and 3. -/
def Obligations.WaitingDoesNotChangeTheResult : Prop :=
  ∀ (s u : State) (i : Instr),
    s.busy = false → s.requests = [] → s.poll = none → exec i s = .next u → u.busy = true →
    ∃ consumed : List BusAnswer,
      (s.env = consumed ++ u.env ∨ s.env = consumed ++ .wait :: u.env) ∧
      ∀ more : List BusAnswer,
        step { u with env := more } = exec i { s with env := consumed ++ more }

/-- R99 to R102, R91, R92: what a blocking primitive leaves alone, completed or held: the framer's registers,
the sink, the configuration and the agents' other data; START leaves DATA alone and WRITE has loaded it at
its issue (R21). Completed, it has used one answer and adds one bus event and one response. Held, it is the
primitive in flight, a read has not loaded DATA, nothing is recorded, and of the answers at most one `wait`
is used up (logs 1 and 4). -/
def Obligations.BlockingPrimitiveFrame : Prop :=
  ∀ (s t : State) (i : Instr),
    i = .start ∨ (∃ v, i = .write v) ∨ i = .readAck ∨ i = .readNack → exec i s = .next t →
    t.fseq = s.fseq ∧ t.fstep = s.fstep ∧ t.freg = s.freg ∧ t.ferr = s.ferr ∧ t.fbyte = s.fbyte ∧
    t.sink = s.sink ∧ t.cfg = s.cfg ∧ t.draws = s.draws ∧ t.requests = s.requests ∧ t.poll = s.poll ∧
    (i = .start → t.data = s.data) ∧ (∀ v, i = .write v → t.data = v) ∧
    (t.busy = false → t.done = true ∧ (∃ st b, s.env = .done st b :: t.env) ∧
      ∃ e, t.bus = s.bus ++ [e] ∧ t.responses = s.responses ++ [t.rsp]) ∧
    (t.busy = true → t.trace = s.trace ∧ t.rsp = s.rsp ∧ t.phase = s.phase ∧ t.status = s.status ∧
      t.done = false ∧ (t.env = s.env ∨ s.env = .wait :: t.env) ∧
      (i = .start → t.inflight = some .start) ∧
      (∀ v, i = .write v → t.inflight = some (.write v)) ∧
      (i = .readAck → t.inflight = some (.read true) ∧ t.data = s.data) ∧
      (i = .readNack → t.inflight = some (.read false) ∧ t.data = s.data))

/-! ### The framer -/

/-- R112, R116: WAKEUP when the bus answers the four expected codes, in every phase it may start from.
Every field not named is unchanged. -/
def Obligations.WakeupCompletes : Prop :=
  ∀ (s : State) (b₁ b₂ b₃ b₄ : Byte) (rest : List BusAnswer),
    s.busy = false → s.cfg.valid = true →
    s.env = .done s.cfg.stStart b₁ :: .done s.cfg.stTxAddrAck b₂ :: .done s.cfg.stTxDataAck b₃ ::
      .done s.cfg.stTxDataAck b₄ :: rest →
    exec .wakeup s = .next { s with
      data := s.cfg.wakeValue
      done := true
      status := .unspecified
      phase := .idle
      fstep := 0
      ferr := .ok
      fbyte := s.cfg.failByte
      rsp := s.cfg.errOk ++ 0x00#8
      env := rest
      trace := s.trace ++
        [.bus (.start (s.phase != .idle) s.cfg.stStart),
         .bus (.write .addrW s.cfg.slaW s.cfg.stTxAddrAck),
         .bus (.write .data s.cfg.regPwr s.cfg.stTxDataAck),
         .bus (.write .data s.cfg.wakeValue s.cfg.stTxDataAck),
         .bus (.stop true),
         .response (s.cfg.errOk ++ 0x00#8)] }

/-- R113, R118: READREG when the bus answers the six expected codes and delivers the byte `b`. -/
def Obligations.ReadregCompletes : Prop :=
  ∀ (s : State) (r b b₁ b₂ b₃ b₄ b₅ : Byte) (rest : List BusAnswer),
    s.busy = false → s.cfg.valid = true →
    s.env = .done s.cfg.stStart b₁ :: .done s.cfg.stTxAddrAck b₂ :: .done s.cfg.stTxDataAck b₃ ::
      .done s.cfg.stRepStart b₄ :: .done s.cfg.stRxAddrAck b₅ :: .done s.cfg.stRxDataNack b :: rest →
    exec (.readreg r) s = .next { s with
      data := b
      done := true
      status := .unspecified
      phase := .idle
      fstep := 0
      freg := r
      ferr := .ok
      fbyte := b
      rsp := s.cfg.errOk ++ b
      env := rest
      trace := s.trace ++
        [.bus (.start (s.phase != .idle) s.cfg.stStart),
         .bus (.write .addrW s.cfg.slaW s.cfg.stTxAddrAck),
         .bus (.write .data r s.cfg.stTxDataAck),
         .bus (.start true s.cfg.stRepStart),
         .bus (.write .addrR s.cfg.slaR s.cfg.stRxAddrAck),
         .bus (.read b false s.cfg.stRxDataNack),
         .bus (.stop true),
         .response (s.cfg.errOk ++ b)] }

/-- R112, R116, R151, R160: WAKEUP failing at each of its four steps, the state after it field by field. -/
def Obligations.WakeupFailureExit : Prop :=
  ∀ (s : State) (st b b₁ b₂ b₃ : Byte) (rest : List BusAnswer),
    s.busy = false → s.cfg.valid = true →
    (s.env = .done st b :: rest → st ≠ s.cfg.stStart →
      exec .wakeup s = .next (failedState s .failureStart s.data 0x00#8 rest
        [.start (s.phase != .idle) st])) ∧
    (s.env = .done s.cfg.stStart b₁ :: .done st b :: rest → st ≠ s.cfg.stTxAddrAck →
      exec .wakeup s = .next (failedState s .failureAddrAckWrite s.cfg.slaW 0x00#8 rest
        [.start (s.phase != .idle) s.cfg.stStart, .write .addrW s.cfg.slaW st])) ∧
    (s.env = .done s.cfg.stStart b₁ :: .done s.cfg.stTxAddrAck b₂ :: .done st b :: rest →
      st ≠ s.cfg.stTxDataAck →
      exec .wakeup s = .next (failedState s .failureDataAck s.cfg.regPwr 0x00#8 rest
        [.start (s.phase != .idle) s.cfg.stStart, .write .addrW s.cfg.slaW s.cfg.stTxAddrAck,
         .write .data s.cfg.regPwr st])) ∧
    (s.env = .done s.cfg.stStart b₁ :: .done s.cfg.stTxAddrAck b₂ :: .done s.cfg.stTxDataAck b₃ ::
        .done st b :: rest → st ≠ s.cfg.stTxDataAck →
      exec .wakeup s = .next (failedState s .failureDataAck s.cfg.wakeValue 0x00#8 rest
        [.start (s.phase != .idle) s.cfg.stStart, .write .addrW s.cfg.slaW s.cfg.stTxAddrAck,
         .write .data s.cfg.regPwr s.cfg.stTxDataAck, .write .data s.cfg.wakeValue st]))

/-- R113, R118, R151, R160: READREG failing at each of its six steps; the byte of a failing step 6 stays
in DATA only. -/
def Obligations.ReadregFailureExit : Prop :=
  ∀ (s : State) (r st b b₁ b₂ b₃ b₄ b₅ : Byte) (rest : List BusAnswer),
    s.busy = false → s.cfg.valid = true →
    (s.env = .done st b :: rest → st ≠ s.cfg.stStart →
      exec (.readreg r) s = .next (failedState { s with freg := r } .failureStart s.data s.cfg.failByte rest
        [.start (s.phase != .idle) st])) ∧
    (s.env = .done s.cfg.stStart b₁ :: .done st b :: rest → st ≠ s.cfg.stTxAddrAck →
      exec (.readreg r) s = .next (failedState { s with freg := r } .failureAddrAckWrite s.cfg.slaW
        s.cfg.failByte rest
        [.start (s.phase != .idle) s.cfg.stStart, .write .addrW s.cfg.slaW st])) ∧
    (s.env = .done s.cfg.stStart b₁ :: .done s.cfg.stTxAddrAck b₂ :: .done st b :: rest →
      st ≠ s.cfg.stTxDataAck →
      exec (.readreg r) s = .next (failedState { s with freg := r } .failureDataAck r s.cfg.failByte rest
        [.start (s.phase != .idle) s.cfg.stStart, .write .addrW s.cfg.slaW s.cfg.stTxAddrAck,
         .write .data r st])) ∧
    (s.env = .done s.cfg.stStart b₁ :: .done s.cfg.stTxAddrAck b₂ :: .done s.cfg.stTxDataAck b₃ ::
        .done st b :: rest → st ≠ s.cfg.stRepStart →
      exec (.readreg r) s = .next (failedState { s with freg := r } .failureRepeatedStart r
        s.cfg.failByte rest
        [.start (s.phase != .idle) s.cfg.stStart, .write .addrW s.cfg.slaW s.cfg.stTxAddrAck,
         .write .data r s.cfg.stTxDataAck, .start true st])) ∧
    (s.env = .done s.cfg.stStart b₁ :: .done s.cfg.stTxAddrAck b₂ :: .done s.cfg.stTxDataAck b₃ ::
        .done s.cfg.stRepStart b₄ :: .done st b :: rest → st ≠ s.cfg.stRxAddrAck →
      exec (.readreg r) s = .next (failedState { s with freg := r } .failureAddrAckRead s.cfg.slaR
        s.cfg.failByte rest
        [.start (s.phase != .idle) s.cfg.stStart, .write .addrW s.cfg.slaW s.cfg.stTxAddrAck,
         .write .data r s.cfg.stTxDataAck, .start true s.cfg.stRepStart,
         .write .addrR s.cfg.slaR st])) ∧
    (s.env = .done s.cfg.stStart b₁ :: .done s.cfg.stTxAddrAck b₂ :: .done s.cfg.stTxDataAck b₃ ::
        .done s.cfg.stRepStart b₄ :: .done s.cfg.stRxAddrAck b₅ :: .done st b :: rest →
      st ≠ s.cfg.stRxDataNack →
      exec (.readreg r) s = .next (failedState { s with freg := r } .failureDataNack b s.cfg.failByte rest
        [.start (s.phase != .idle) s.cfg.stStart, .write .addrW s.cfg.slaW s.cfg.stTxAddrAck,
         .write .data r s.cfg.stTxDataAck, .start true s.cfg.stRepStart,
         .write .addrR s.cfg.slaR s.cfg.stRxAddrAck, .read b false st]))

/-- R114: a framer command that responds has issued exactly one STOP, as its last bus event, and leaves
the phase IDLE; one that is held has issued none. -/
def Obligations.ExactlyOneStopPerFramerCommand : Prop :=
  ∀ (s t : State) (i : Instr),
    i = .wakeup ∨ (∃ r, i = .readreg r) → exec i s = .next t →
    t.bus = s.bus ++ newEvents s t ∧
    (t.busy = false → t.phase = .idle ∧
      ∃ evs, newEvents s t = evs ++ [.stop true] ∧ evs.countP isStop = 0) ∧
    (t.busy = true → (newEvents s t).countP isStop = 0)

/-- R162: what the host may rely on when a framer command responds. -/
def Obligations.FramerReportCanBeReliedOn : Prop :=
  ∀ (s t : State) (i : Instr),
    i = .wakeup ∨ (∃ r, i = .readreg r) → s.cfg.valid = true → exec i s = .next t → t.busy = false →
    t.phase = .idle ∧ t.bus.getLast? = some (.stop true) ∧
    responseCode t.rsp = errByte t.cfg t.ferr ∧
    (responseCode t.rsp ≠ t.cfg.errOk → t.sink = s.sink ++ [responseCode t.rsp]) ∧
    (responseCode t.rsp = t.cfg.errOk → t.sink = s.sink)

/-- R118, R192, R37 (e): a failed READREG responds with FAIL_BYTE and leaves it in FBYTE; a good one
responds with FBYTE, which is the byte received. -/
def Obligations.FailedReadReturnsFailByte : Prop :=
  ∀ (s t : State) (r : Byte),
    exec (.readreg r) s = .next t → t.busy = false →
    responseByte t.rsp = t.fbyte ∧ (t.ferr ≠ .ok → t.fbyte = t.cfg.failByte) ∧
    (t.ferr = .ok → t.fbyte = t.data)

/-- R160, R60 (c): in the one merged history a failed command adds its bus events, the last of them the
stop, then the one error byte, then the response. The order of stop and error byte is the spec's decision
D14 (log 16). -/
def Obligations.ErrorByteFollowsTheStop : Prop :=
  ∀ (s t : State) (i : Instr),
    i = .wakeup ∨ (∃ r, i = .readreg r) → exec i s = .next t → t.busy = false → t.ferr ≠ .ok →
    ∃ evs : List BusEvent, evs.countP isStop = 0 ∧
      t.trace = s.trace ++ evs.map .bus ++
        [.bus (.stop true), .sink (errByte t.cfg t.ferr), .response t.rsp]

/-- R123, R119: a READREG or WAKEUP that responds has issued the first `k` blocking primitives of its
table and then the stop. On success `k` is the whole table. On a failure the command fails at step `k`: the
status of the `k`-th primitive is not the one step `k` expects, and FERR is the code of step `k` (R112,
R113). The counts of a good command. -/
def Obligations.FramerIssuesAnInitialPartOfItsTable : Prop :=
  (∀ (s t : State) (r : Byte), s.cfg.valid = true → exec (.readreg r) s = .next t → t.busy = false →
    ∃ k b st, 1 ≤ k ∧ k ≤ 6 ∧
      (t.ferr = .ok → k = 6 ∧ b = t.fbyte ∧ st = s.cfg.stRxDataNack) ∧
      (t.ferr ≠ .ok →
        [s.cfg.stStart, s.cfg.stTxAddrAck, s.cfg.stTxDataAck, s.cfg.stRepStart, s.cfg.stRxAddrAck,
          s.cfg.stRxDataNack][k - 1]? ≠ some st ∧
        [ErrorCode.failureStart, .failureAddrAckWrite, .failureDataAck, .failureRepeatedStart,
          .failureAddrAckRead, .failureDataNack][k - 1]? = some t.ferr) ∧
      (k < 6 → t.ferr ≠ .ok) ∧ (k = 6 → b = t.data) ∧
      newEvents s t = ([.start (s.phase != .idle) (if k = 1 then st else s.cfg.stStart),
        .write .addrW s.cfg.slaW (if k = 2 then st else s.cfg.stTxAddrAck),
        .write .data r (if k = 3 then st else s.cfg.stTxDataAck),
        .start true (if k = 4 then st else s.cfg.stRepStart),
        .write .addrR s.cfg.slaR (if k = 5 then st else s.cfg.stRxAddrAck),
        .read b false st] : List BusEvent).take k ++ [.stop true]) ∧
  (∀ (s t : State), s.cfg.valid = true → exec .wakeup s = .next t → t.busy = false →
    ∃ k st, 1 ≤ k ∧ k ≤ 4 ∧
      (t.ferr = .ok → k = 4 ∧ st = s.cfg.stTxDataAck) ∧
      (t.ferr ≠ .ok →
        [s.cfg.stStart, s.cfg.stTxAddrAck, s.cfg.stTxDataAck, s.cfg.stTxDataAck][k - 1]? ≠ some st ∧
        [ErrorCode.failureStart, .failureAddrAckWrite, .failureDataAck, .failureDataAck][k - 1]? =
          some t.ferr) ∧
      (k < 4 → t.ferr ≠ .ok) ∧
      newEvents s t = ([.start (s.phase != .idle) (if k = 1 then st else s.cfg.stStart),
        .write .addrW s.cfg.slaW (if k = 2 then st else s.cfg.stTxAddrAck),
        .write .data s.cfg.regPwr (if k = 3 then st else s.cfg.stTxDataAck),
        .write .data s.cfg.wakeValue st] : List BusEvent).take k ++ [.stop true]) ∧
  (∀ (s t : State) (r : Byte), s.cfg.valid = true → s.phase = .idle → exec (.readreg r) s = .next t →
    t.busy = false → t.ferr = .ok →
    (newEvents s t).countP isFirstStart = 1 ∧ (newEvents s t).countP isRepeatedStart = 1 ∧
    (newEvents s t).countP isStop = 1 ∧ (newEvents s t).countP isAddressByte = 2 ∧
    (newEvents s t).countP isDataByte = 1 ∧ (newEvents s t).countP isReadByte = 1) ∧
  (∀ (s t : State), s.cfg.valid = true → s.phase = .idle → exec .wakeup s = .next t →
    t.busy = false → t.ferr = .ok →
    (newEvents s t).countP isFirstStart = 1 ∧ (newEvents s t).countP isRepeatedStart = 0 ∧
    (newEvents s t).countP isStop = 1 ∧ (newEvents s t).countP isAddressByte = 1 ∧
    (newEvents s t).countP isDataByte = 2)

/-- R122, R92: a framer command that is held stands at a step `k` of its own table with that step's
primitive in flight; the `k - 1` primitives before it are on the bus; no stop, no error byte, no response.
That every further step of a stalled block answers the same state, where R14 says a stall has no next state,
is the model's choice, log 4. -/
def Obligations.HeldFramerState : Prop :=
  ∀ (s t : State) (q : FSeq) (i : Instr),
    (q = .wakeup ∧ i = .wakeup) ∨ (q = .readreg ∧ ∃ r, i = .readreg r) →
    exec i s = .next t → t.busy = true →
    t.fseq = q ∧ 1 ≤ t.fstep ∧ t.fstep < stopStep q ∧
    t.inflight = (framerRows t)[t.fstep - 1]?.map (·.op) ∧
    t.done = false ∧ t.ferr = .ok ∧ t.fbyte = t.cfg.failByte ∧ t.rsp = s.rsp ∧ t.sink = s.sink ∧
    t.responses = s.responses ∧
    (newEvents s t).length = t.fstep - 1 ∧ (newEvents s t).countP isStop = 0 ∧
    (∀ rest, t.requests = [] → t.env = .stall :: rest → step t = .next t)

/-- R121: with a session left open, a bus that answers the first START as the repeated start it is makes
the framer command fail with ERR_START after one stop; the block is then idle and ready. -/
def Obligations.OpenSessionFailsTheFramer : Prop :=
  ∀ (s : State) (i : Instr) (b : Byte) (rest : List BusAnswer),
    i = .wakeup ∨ (∃ r, i = .readreg r) → s.busy = false → s.cfg.valid = true → s.phase ≠ .idle →
    s.env = .done s.cfg.stRepStart b :: rest →
    ∃ t, exec i s = .next t ∧ responseCode t.rsp = s.cfg.errStart ∧
      t.bus = s.bus ++ [.start true s.cfg.stRepStart, .stop true] ∧
      t.sink = s.sink ++ [s.cfg.errStart] ∧ t.phase = .idle ∧ t.busy = false

/-- R112, R113, R94: from IDLE, each code the framer expects is the nominal status of its primitive in the
phase it is issued in. -/
def Obligations.FramerExpectsNominalStatuses : Prop :=
  ∀ (c : Cfg) (r : Byte), c.valid = true →
    (wakeupRows c).zipWith (fun row p => nominalStatus c row.op p == some row.expected)
      [.idle, .addr, .mt, .mt] = [true, true, true, true] ∧
    (readregRows c r).zipWith (fun row p => nominalStatus c row.op p == some row.expected)
      [.idle, .addr, .mt, .mt, .addr, .mr] = [true, true, true, true, true, true]

/-- R110, R116, R118: what a framer command leaves alone, completed or held. -/
def Obligations.FramerFrame : Prop :=
  ∀ (s t : State) (i : Instr),
    i = .wakeup ∨ (∃ r, i = .readreg r) → exec i s = .next t →
    t.cfg = s.cfg ∧ t.draws = s.draws ∧ t.requests = s.requests ∧ t.poll = s.poll ∧
    (i = .wakeup → t.freg = s.freg) ∧ (∀ r, i = .readreg r → t.freg = r) ∧
    s.trace <+: t.trace ∧
    (t.busy = false → t.fseq = .none ∧ t.fstep = 0 ∧ t.inflight = none ∧ t.done = true ∧
      t.responses = s.responses ++ [t.rsp])

/-- R79: a host that issues the framer's primitives itself, in this order and with the same checks, drives
the bus exactly as the framer does: same history, same phase, same registers, same answers used; where one
is held by a primitive, so is the other. -/
def Obligations.FramerEqualsHostIssuedPrimitives : Prop :=
  ∀ (s t : State) (i : Instr) (commands : List (Instr × Byte)),
    (i = .wakeup ∧ commands = wakeupByHost s.cfg) ∨
      (∃ r, i = .readreg r ∧ commands = readregByHost s.cfg r) →
    s.busy = false → s.cfg.valid = true → exec i s = .next t →
    ∃ u, hostSequence commands s = .next u ∧
      u.bus = t.bus ∧ u.phase = t.phase ∧ u.status = t.status ∧ u.data = t.data ∧ u.done = t.done ∧
      u.inflight = t.inflight ∧ u.env = t.env ∧
      u.sink = s.sink ∧ u.ferr = s.ferr ∧ u.fbyte = s.fbyte ∧ u.fstep = s.fstep

/-! ### Stops and the status register -/

/-- R188, R103: a STOP with no session open changes nothing but the history, and the next READREG succeeds
on the answers it expects. The status register is unspecified in IDLE (R26). -/
def Obligations.RedundantStopIsHarmless : Prop :=
  ∀ (s : State) (r b b₁ b₂ b₃ b₄ b₅ : Byte) (rest : List BusAnswer),
    s.busy = false → s.cfg.valid = true → s.phase = .idle → s.status = .unspecified →
    s.env = .done s.cfg.stStart b₁ :: .done s.cfg.stTxAddrAck b₂ :: .done s.cfg.stTxDataAck b₃ ::
      .done s.cfg.stRepStart b₄ :: .done s.cfg.stRxAddrAck b₅ :: .done s.cfg.stRxDataNack b :: rest →
    ∃ t u, exec .stop s = .next t ∧ t = { s with trace := s.trace ++ [.bus (.stop false)] } ∧
      exec (.readreg r) t = .next u ∧ u.rsp = s.cfg.errOk ++ b ∧
      (newEvents t u).head? = some (.start false s.cfg.stStart)

/-- R187, R103: a START after a STOP is a first start, in whatever phase the STOP came. -/
def Obligations.StartAfterStopIsAFirstStart : Prop :=
  ∀ (s : State) (st b : Byte) (rest : List BusAnswer),
    s.busy = false → s.env = .done st b :: rest →
    ∃ t u, exec .stop s = .next t ∧ exec .start t = .next u ∧ u.phase = .addr ∧
      u.bus = s.bus ++ [.stop (s.phase != .idle), .start false st]

/-- R26, R104: two STATUS commands with nothing between them return the same code, and that of the
completion before them. -/
def Obligations.StatusReadsAgree : Prop :=
  ∀ (s : State) (st : Byte), s.busy = false → s.status = .code st →
    ∃ t u, exec .status s = .next t ∧ exec .status t = .next u ∧
      t.rsp = st ++ 0x00#8 ∧ u.rsp = t.rsp ∧ u.status = .code st

/-! ### Invariants -/

/-- R44: the invariant holds after reset. -/
def Obligations.ResetMeetsTheInvariant : Prop := State.reset.Inv

/-- R37, R24, R26, R33, R122: every step keeps the invariant: the framer's counter and sequence agree, DONE
is 0 in flight, a held primitive is an admitted one, a held framer stands at its own step, the bus history
is one of well-formed sessions and its end is the phase, and the status is unspecified exactly in IDLE.
That a running framer has its step's primitive in flight at every step boundary is the model's choice, log 3:
R90 and R111 have a moment between two steps with FSEQ not NONE and INFLIGHT none. -/
def Obligations.StepKeepsTheInvariant : Prop :=
  ∀ s t : State, s.Inv → step s = .next t → t.Inv

/-- R12, R26: after reset every status is a member of StatusSpace. -/
def Obligations.ResetStatusesLieInStatusSpace : Prop := State.reset.StatusSafe

/-- R12, R26, R76: if the bus answers members of StatusSpace, the status register and the history hold no
other code. -/
def Obligations.StepKeepsStatusesInStatusSpace : Prop :=
  ∀ s t : State, s.StatusSafe → step s = .next t → t.StatusSafe

/-- R92, R111, R160: a block that is inside a command never stops with a fault or a refusal: in every
state that meets the invariant the command goes on, or stays held. That a held or stalled block answers a next
state is the model's choice, log 4; the fault that cannot come up is the model's own, log 23. -/
def Obligations.BusyBlockNeverFaultsOrRefuses : Prop :=
  ∀ s : State, s.Inv → s.cfg.valid = true → s.busy = true → ∃ t, advance s = .next t

/-- R8, R64: no step changes the configuration, and so none changes the framer's constants. -/
def Obligations.StepKeepsTheConfiguration : Prop :=
  ∀ s t : State, step s = .next t → t.cfg = s.cfg

/-- R31, R32, R60: a step only appends to the merged history (log 8), unless it serves a reset. -/
def Obligations.HistoryOnlyGrows : Prop :=
  ∀ s t : State, step s = .next t →
    s.trace <+: t.trace ∨ (∃ who rest, s.requests = ⟨who, .reset⟩ :: rest ∧ t.trace = [])

/-- R40, R71: RSP holds the last response, or 0x0000 before the first; every step keeps this (log 9:
the primitives inside a framer command give no response of their own). -/
def Obligations.RspHoldsTheLastResponse : Prop :=
  State.reset.rsp = State.reset.responses.getLastD 0x0000#16 ∧
  ∀ s t : State, s.rsp = s.responses.getLastD 0x0000#16 → step s = .next t →
    t.rsp = t.responses.getLastD 0x0000#16

/-- R195, R119: on a bus that completes what it is asked, every admitted command responds, within six
answers. -/
def Obligations.CommandsRespondOnABusThatCompletes : Prop :=
  ∀ (s : State) (i : Instr),
    s.busy = false → s.cfg.valid = true → commandRefusal i s.phase = none → completesNext 6 s →
    ∃ t, exec i s = .next t ∧ t.busy = false ∧ ∃ used, s.env = used ++ t.env ∧ used.length ≤ 6

/-! ### Reset -/

/-- R44, R40: the reset values the spec gives. (DATA and FREG, which it leaves unspecified, are the
model's choice, log 7, and are not stated.) -/
def Obligations.ResetValues : Prop :=
  State.reset.status = .unspecified ∧ State.reset.done = false ∧ State.reset.phase = .idle ∧
  State.reset.session = false ∧ State.reset.inflight = none ∧ State.reset.fseq = .none ∧
  State.reset.fstep = 0 ∧ State.reset.ferr = .ok ∧ State.reset.fbyte = 0x00#8 ∧
  State.reset.bus = [] ∧ State.reset.sink = [] ∧ State.reset.rsp = 0x0000#16 ∧
  flagsByte State.reset = 0x00#8 ∧ resultWord State.reset = 0x0000#16 ∧ State.reset.busy = false

/-- R180, R181, R141: a reset leaves the reset values. A test bench's lands in every state, in flight and
stalled too; a host's is served where BUSY = 0, since a held host asks nothing (log 10). That Cfg, the coming
answers of the bus and the later requests stay, and that a polling loop starts again, is the model's choice,
log 12. -/
def Obligations.RestartFromEveryState : Prop :=
  ∀ (s : State) (who : Requester) (rest : List Request),
    s.requests = ⟨who, .reset⟩ :: rest → (who = .host → s.busy = false) →
    ∃ t, step s = .next t ∧ t.status = .unspecified ∧ t.done = false ∧ t.phase = .idle ∧
      t.inflight = none ∧ t.fseq = .none ∧ t.fstep = 0 ∧ t.ferr = .ok ∧ t.fbyte = 0x00#8 ∧
      t.bus = [] ∧ t.sink = [] ∧ t.rsp = 0x0000#16 ∧ t.cfg = s.cfg ∧ t.env = s.env ∧ t.requests = rest ∧
      t.poll = s.poll.map fun _ => PollHost.boot

/-! ### The register view -/

/-- R41, R40: every field of FLAGS, read at offset 4; a write to it is refused (U9). A host's read is served
only where BUSY = 0 (R90) and then sees BUSY = 0 and FSEQ = 0; where BUSY = 1 the step does not serve it. The
queue the read stands in, and the record of the value read, are the model's choice, logs 10 and 8. -/
def Obligations.FlagsFields : Prop :=
  ∀ s : State,
    (flagsByte s)[0] = s.done ∧ (flagsByte s)[1] = s.session ∧ (flagsByte s)[2] = s.busy ∧
    ((flagsByte s).extractLsb' 3 3).toNat =
      (match s.phase with | .idle => 0 | .addr => 1 | .mt => 2 | .mr => 3 | .mrEnd => 4) ∧
    ((flagsByte s).extractLsb' 6 2).toNat =
      (match s.fseq with | .none => 0 | .wakeup => 1 | .readreg => 2) ∧
    readInterface 4 s = .next ((flagsByte s).setWidth 16, s) ∧
    (∀ v, serveWrite 4 v s = .refused (.readOnlyRegister 4)) ∧
    (∀ rest, s.requests = ⟨.host, .read 4⟩ :: rest →
      (s.busy = false → ∃ v : Word16, v = (flagsByte s).setWidth 16 ∧
        step s = .next { s with requests := rest, trace := s.trace ++ [.regRead 4 v] } ∧
        v[2] = false ∧ v.extractLsb' 6 2 = 0#2) ∧
      (s.busy = true → step s = advance s))

/-- R40: the registers of the view: a write of CMD issues the command, RSP, STATUS, DATA and RESULT read
what they show, and every other access is refused (U9). STATUS, where it is unspecified, reads as some byte,
of which nothing is said (R26); the counter `draws` of such bytes is the model's choice, log 6. -/
def Obligations.RegisterView : Prop :=
  ∀ s : State,
    (∀ i, serveWrite 0 (encode i) s = exec i s) ∧
    readInterface 0 s = .refused .readOfCmd ∧
    readInterface 1 s = .next (s.rsp, s) ∧
    (∀ st, s.status = .code st → readInterface 2 s = .next (st.setWidth 16, s)) ∧
    (s.status = .unspecified → ∃ v : Byte,
      readInterface 2 s = .next (v.setWidth 16, { s with draws := s.draws + 1 })) ∧
    readInterface 3 s = .next (s.data.setWidth 16, s) ∧
    readInterface 5 s = .next (errByte s.cfg s.ferr ++ s.fbyte, s) ∧
    (∀ off v, 1 ≤ off → off ≤ 5 → serveWrite off v s = .refused (.readOnlyRegister off)) ∧
    (∀ off v, 6 ≤ off →
      readInterface off s = .refused (.noSuchRegister off) ∧
      serveWrite off v s = .refused (.noSuchRegister off))

/-- R57, R40: a read of the register view changes no register, no history of bus, sink or responses.
(The record of the value read and the counter of unspecified bytes are the model's, logs 8, 10 and 6.) -/
def Obligations.RegisterReadsHaveNoSideEffect : Prop :=
  ∀ (s t : State) (off : Nat), serveRead off s = .next t →
    t.bus = s.bus ∧ t.sink = s.sink ∧ t.responses = s.responses ∧
    { t with trace := s.trace, draws := s.draws } = s

/-! ### The polling loop (42_host_polling.md) -/

/-- R132: the sink's start, then the wake-up: on OK to WAIT; on a failure to HALT, with one more byte on the
sink only where STARTUP_FAIL_HOST_EMITS says so; held, it waits. In HALT nothing happens any more. (The states
`boot` and `startup` and one transition a step are log 24.) -/
def Obligations.PollStartup : Prop :=
  ∀ (s : State) (p : PollHost),
    s.busy = false → s.requests = [] → s.poll = some p →
    (p.pc = .boot → step s = .next { s with
      poll := some { p with pc := .startup }, trace := s.trace ++ [.sinkInit] }) ∧
    (p.pc = .startup → ∀ u, exec .wakeup { s with poll := some { p with waiting := true } } = .next u →
      (u.busy = true → step s = .next u) ∧
      (u.busy = false → responseCode u.rsp = u.cfg.errOk →
        step s = .next { u with poll := some { p with pc := .wait, waiting := false } }) ∧
      (u.busy = false → responseCode u.rsp ≠ u.cfg.errOk →
        ∃ t, step s = .next t ∧ t.poll = some { p with pc := .halt, waiting := false } ∧ t.bus = u.bus ∧
          t.sink = u.sink ++ (if u.cfg.startupFailHostEmits then [responseCode u.rsp] else []))) ∧
    (p.pc = .halt → step s = .next s)

/-- R134, R135, R137, R130: the two reads of a cycle, with the intended semantics: on OK the byte is kept and
the loop goes on, otherwise it goes to ERROR. Where the READREG is held, the loop is held in the same state
and waits. (The loop's flag `waiting` and one transition a step are log 24, the held step logs 3 and 4.) -/
def Obligations.PollReads : Prop :=
  ∀ (s u : State) (p : PollHost),
    s.busy = false → s.requests = [] → s.poll = some p →
    (p.pc = .readHigh →
      exec (.readreg s.cfg.regAxisH) { s with poll := some { p with waiting := true } } = .next u →
      (u.busy = false →
        step s = .next { u with poll := some (if responseCode u.rsp = u.cfg.errOk
          then { p with pc := .readLow, high := responseByte u.rsp, waiting := false }
          else { p with pc := .error, waiting := false }) }) ∧
      (u.busy = true → step s = .next u ∧ u.poll = some { p with waiting := true })) ∧
    (p.pc = .readLow →
      exec (.readreg s.cfg.regAxisL) { s with poll := some { p with waiting := true } } = .next u →
      (u.busy = false →
        step s = .next { u with poll := some (if responseCode u.rsp = u.cfg.errOk
          then { p with pc := .sendHigh, low := responseByte u.rsp, waiting := false }
          else { p with pc := .error, waiting := false }) }) ∧
      (u.busy = true → step s = .next u ∧ u.poll = some { p with waiting := true }))

/-- R133, R136: WAIT clears the sample; the three sends, with no bus activity. The cleared values are the
spec's decision D22 (log 24). -/
def Obligations.PollSends : Prop :=
  ∀ (s : State) (p : PollHost),
    s.busy = false → s.requests = [] → s.poll = some p →
    (p.pc = .wait → step s = .next { s with
      poll := some { p with pc := .readHigh, high := 0x00#8, low := 0x00#8 } }) ∧
    (p.pc = .sendHigh → step s = .next { s with
      poll := some { p with pc := .sendLow }, trace := s.trace ++ [.sink p.high] }) ∧
    (p.pc = .sendLow → step s = .next { s with
      poll := some { p with pc := .sendNewline }, trace := s.trace ++ [.sink p.low] }) ∧
    (p.pc = .sendNewline → step s = .next { s with
      poll := some { p with pc := .wait }, trace := s.trace ++ [.sink s.cfg.newline] })

/-- R138: ERROR is absorbing: after any number of steps the loop is in it still, the bus has seen nothing,
and the sink one newline a step (the spec's decision D23; log 24). -/
def Obligations.PollErrorIsAbsorbing : Prop :=
  ∀ (n : Nat) (s : State) (p : PollHost),
    s.busy = false → s.requests = [] → s.poll = some p → p.pc = .error →
    ∃ t, Host.Core.run Sys2Proof.core n s = .next t ∧ t.poll = some p ∧ t.bus = s.bus ∧
      t.sink = s.sink ++ List.replicate n s.cfg.newline

/-- R131, R130: every state of the loop has a successor: where BUSY = 0 the loop's transition always
answers a next state (log 24). -/
def Obligations.PollAlwaysHasASuccessor : Prop :=
  ∀ (s : State) (p : PollHost), s.busy = false → s.cfg.valid = true → ∃ t, pollStep p s = .next t

/-- R140, R133 to R136: a good cycle from WAIT ends in WAIT again and sends exactly the high byte, the low
byte and the newline. That it takes six steps, one transition a step, is the model's choice, log 24. -/
def Obligations.PollGoodCycle : Prop :=
  ∀ (s : State) (p : PollHost) (h l b₁ b₂ b₃ b₄ b₅ b₆ b₇ b₈ b₉ b₁₀ : Byte) (rest : List BusAnswer),
    s.busy = false → s.requests = [] → s.cfg.valid = true → s.poll = some p → p.pc = .wait →
    s.env = .done s.cfg.stStart b₁ :: .done s.cfg.stTxAddrAck b₂ :: .done s.cfg.stTxDataAck b₃ ::
      .done s.cfg.stRepStart b₄ :: .done s.cfg.stRxAddrAck b₅ :: .done s.cfg.stRxDataNack h ::
      .done s.cfg.stStart b₆ :: .done s.cfg.stTxAddrAck b₇ :: .done s.cfg.stTxDataAck b₈ ::
      .done s.cfg.stRepStart b₉ :: .done s.cfg.stRxAddrAck b₁₀ :: .done s.cfg.stRxDataNack l :: rest →
    ∃ t, Host.Core.run Sys2Proof.core 6 s = .next t ∧
      t.sink = s.sink ++ [h, l, s.cfg.newline] ∧ t.busy = false ∧ t.env = rest ∧
      t.poll = some { p with pc := .wait, high := h, low := l, waiting := false }

/-- R130, R132, R134, R135, R141: a loop held inside its command takes the response in the step in which the
command responds, and goes where it would have gone had the command responded at once; while the command is
held still, the loop waits. (The flag `waiting` and taking the response in that step are log 24, the held
step logs 3 and 4.) -/
def Obligations.PollTakesTheLateResponse : Prop :=
  ∀ (s u : State) (p : PollHost),
    s.busy = true → s.requests = [] → s.poll = some p → p.waiting = true → resume s = .next u →
    (u.busy = true → step s = .next u ∧ u.poll = some p) ∧
    (u.busy = false →
      (p.pc = .startup → step s = .next (if responseCode u.rsp = u.cfg.errOk
        then { u with poll := some { p with pc := .wait, waiting := false } }
        else { u with
          poll := some { p with pc := .halt, waiting := false }
          trace := u.trace ++
            (if u.cfg.startupFailHostEmits then [.sink (responseCode u.rsp)] else []) })) ∧
      (p.pc = .readHigh → step s = .next { u with poll := some (if responseCode u.rsp = u.cfg.errOk
        then { p with pc := .readLow, high := responseByte u.rsp, waiting := false }
        else { p with pc := .error, waiting := false }) }) ∧
      (p.pc = .readLow → step s = .next { u with poll := some (if responseCode u.rsp = u.cfg.errOk
        then { p with pc := .sendHigh, low := responseByte u.rsp, waiting := false }
        else { p with pc := .error, waiting := false }) }))

/-- R130, R91, R92, R111: a polling loop whose WAKEUP or READREG the bus keeps waiting ends its step as it
would have ended it had the answers come at once, whatever they are. (The answers as a list, the whole command
in one step and the loop's transition in the step of the response are logs 1, 3 and 24.) -/
def Obligations.PollWaitingDoesNotChangeTheResult : Prop :=
  ∀ (s u : State) (p : PollHost),
    s.busy = false → s.requests = [] → s.poll = some p → step s = .next u → u.busy = true →
    u.poll = some { p with waiting := true } ∧
    ∃ consumed : List BusAnswer,
      (s.env = consumed ++ u.env ∨ s.env = consumed ++ .wait :: u.env) ∧
      ∀ more : List BusAnswer,
        step { u with env := more } = step { s with env := consumed ++ more }
end

