-- ==== Sys2Proof/Laws/State.lean ====
section
/-! SUPPORT. One lemma for each field of State after each update of it, and for each view of the history
(S.BUS, S.SINK, responses), so that no proof unfolds an update. -/

namespace Sys2Proof.Machine

variable (s : State)

/-! ### record -/

@[simp] theorem record_data (e : Obs) : (record e s).data = s.data := rfl
@[simp] theorem record_status (e : Obs) : (record e s).status = s.status := rfl
@[simp] theorem record_done (e : Obs) : (record e s).done = s.done := rfl
@[simp] theorem record_phase (e : Obs) : (record e s).phase = s.phase := rfl
@[simp] theorem record_inflight (e : Obs) : (record e s).inflight = s.inflight := rfl
@[simp] theorem record_fseq (e : Obs) : (record e s).fseq = s.fseq := rfl
@[simp] theorem record_fstep (e : Obs) : (record e s).fstep = s.fstep := rfl
@[simp] theorem record_freg (e : Obs) : (record e s).freg = s.freg := rfl
@[simp] theorem record_ferr (e : Obs) : (record e s).ferr = s.ferr := rfl
@[simp] theorem record_fbyte (e : Obs) : (record e s).fbyte = s.fbyte := rfl
@[simp] theorem record_rsp (e : Obs) : (record e s).rsp = s.rsp := rfl
@[simp] theorem record_trace (e : Obs) : (record e s).trace = s.trace ++ [e] := rfl
@[simp] theorem record_cfg (e : Obs) : (record e s).cfg = s.cfg := rfl
@[simp] theorem record_env (e : Obs) : (record e s).env = s.env := rfl
@[simp] theorem record_draws (e : Obs) : (record e s).draws = s.draws := rfl
@[simp] theorem record_requests (e : Obs) : (record e s).requests = s.requests := rfl
@[simp] theorem record_poll (e : Obs) : (record e s).poll = s.poll := rfl

/-! ### sinkSend -/

@[simp] theorem sinkSend_data (b : Byte) : (sinkSend b s).data = s.data := rfl
@[simp] theorem sinkSend_status (b : Byte) : (sinkSend b s).status = s.status := rfl
@[simp] theorem sinkSend_done (b : Byte) : (sinkSend b s).done = s.done := rfl
@[simp] theorem sinkSend_phase (b : Byte) : (sinkSend b s).phase = s.phase := rfl
@[simp] theorem sinkSend_inflight (b : Byte) : (sinkSend b s).inflight = s.inflight := rfl
@[simp] theorem sinkSend_fseq (b : Byte) : (sinkSend b s).fseq = s.fseq := rfl
@[simp] theorem sinkSend_fstep (b : Byte) : (sinkSend b s).fstep = s.fstep := rfl
@[simp] theorem sinkSend_freg (b : Byte) : (sinkSend b s).freg = s.freg := rfl
@[simp] theorem sinkSend_ferr (b : Byte) : (sinkSend b s).ferr = s.ferr := rfl
@[simp] theorem sinkSend_fbyte (b : Byte) : (sinkSend b s).fbyte = s.fbyte := rfl
@[simp] theorem sinkSend_rsp (b : Byte) : (sinkSend b s).rsp = s.rsp := rfl
@[simp] theorem sinkSend_trace (b : Byte) : (sinkSend b s).trace = s.trace ++ [.sink b] := rfl
@[simp] theorem sinkSend_cfg (b : Byte) : (sinkSend b s).cfg = s.cfg := rfl
@[simp] theorem sinkSend_env (b : Byte) : (sinkSend b s).env = s.env := rfl
@[simp] theorem sinkSend_draws (b : Byte) : (sinkSend b s).draws = s.draws := rfl
@[simp] theorem sinkSend_requests (b : Byte) : (sinkSend b s).requests = s.requests := rfl
@[simp] theorem sinkSend_poll (b : Byte) : (sinkSend b s).poll = s.poll := rfl

/-! ### deliver -/

@[simp] theorem deliver_data (w : Word16) : (deliver w s).data = s.data := rfl
@[simp] theorem deliver_status (w : Word16) : (deliver w s).status = s.status := rfl
@[simp] theorem deliver_done (w : Word16) : (deliver w s).done = s.done := rfl
@[simp] theorem deliver_phase (w : Word16) : (deliver w s).phase = s.phase := rfl
@[simp] theorem deliver_inflight (w : Word16) : (deliver w s).inflight = s.inflight := rfl
@[simp] theorem deliver_fseq (w : Word16) : (deliver w s).fseq = s.fseq := rfl
@[simp] theorem deliver_fstep (w : Word16) : (deliver w s).fstep = s.fstep := rfl
@[simp] theorem deliver_freg (w : Word16) : (deliver w s).freg = s.freg := rfl
@[simp] theorem deliver_ferr (w : Word16) : (deliver w s).ferr = s.ferr := rfl
@[simp] theorem deliver_fbyte (w : Word16) : (deliver w s).fbyte = s.fbyte := rfl
@[simp] theorem deliver_rsp (w : Word16) : (deliver w s).rsp = w := rfl
@[simp] theorem deliver_trace (w : Word16) : (deliver w s).trace = s.trace ++ [.response w] := rfl
@[simp] theorem deliver_cfg (w : Word16) : (deliver w s).cfg = s.cfg := rfl
@[simp] theorem deliver_env (w : Word16) : (deliver w s).env = s.env := rfl
@[simp] theorem deliver_draws (w : Word16) : (deliver w s).draws = s.draws := rfl
@[simp] theorem deliver_requests (w : Word16) : (deliver w s).requests = s.requests := rfl
@[simp] theorem deliver_poll (w : Word16) : (deliver w s).poll = s.poll := rfl

/-! ### issue -/

@[simp] theorem issue_data (op : Prim) : (issue op s).data = dataAtIssue op s.data := rfl
@[simp] theorem issue_status (op : Prim) : (issue op s).status = s.status := rfl
@[simp] theorem issue_done (op : Prim) : (issue op s).done = false := rfl
@[simp] theorem issue_phase (op : Prim) : (issue op s).phase = s.phase := rfl
@[simp] theorem issue_inflight (op : Prim) : (issue op s).inflight = some op := rfl
@[simp] theorem issue_fseq (op : Prim) : (issue op s).fseq = s.fseq := rfl
@[simp] theorem issue_fstep (op : Prim) : (issue op s).fstep = s.fstep := rfl
@[simp] theorem issue_freg (op : Prim) : (issue op s).freg = s.freg := rfl
@[simp] theorem issue_ferr (op : Prim) : (issue op s).ferr = s.ferr := rfl
@[simp] theorem issue_fbyte (op : Prim) : (issue op s).fbyte = s.fbyte := rfl
@[simp] theorem issue_rsp (op : Prim) : (issue op s).rsp = s.rsp := rfl
@[simp] theorem issue_trace (op : Prim) : (issue op s).trace = s.trace := rfl
@[simp] theorem issue_cfg (op : Prim) : (issue op s).cfg = s.cfg := rfl
@[simp] theorem issue_env (op : Prim) : (issue op s).env = s.env := rfl
@[simp] theorem issue_draws (op : Prim) : (issue op s).draws = s.draws := rfl
@[simp] theorem issue_requests (op : Prim) : (issue op s).requests = s.requests := rfl
@[simp] theorem issue_poll (op : Prim) : (issue op s).poll = s.poll := rfl

/-! ### complete -/

@[simp] theorem complete_data (op : Prim) (st b : Byte) : (complete op st b s).data = dataAtCompletion op b s.data := rfl
@[simp] theorem complete_status (op : Prim) (st b : Byte) : (complete op st b s).status = .code st := rfl
@[simp] theorem complete_done (op : Prim) (st b : Byte) : (complete op st b s).done = true := rfl
@[simp] theorem complete_phase (op : Prim) (st b : Byte) : (complete op st b s).phase = nextPhase s.cfg op s.phase := rfl
@[simp] theorem complete_inflight (op : Prim) (st b : Byte) : (complete op st b s).inflight = none := rfl
@[simp] theorem complete_fseq (op : Prim) (st b : Byte) : (complete op st b s).fseq = s.fseq := rfl
@[simp] theorem complete_fstep (op : Prim) (st b : Byte) : (complete op st b s).fstep = s.fstep := rfl
@[simp] theorem complete_freg (op : Prim) (st b : Byte) : (complete op st b s).freg = s.freg := rfl
@[simp] theorem complete_ferr (op : Prim) (st b : Byte) : (complete op st b s).ferr = s.ferr := rfl
@[simp] theorem complete_fbyte (op : Prim) (st b : Byte) : (complete op st b s).fbyte = s.fbyte := rfl
@[simp] theorem complete_rsp (op : Prim) (st b : Byte) : (complete op st b s).rsp = s.rsp := rfl
@[simp] theorem complete_trace (op : Prim) (st b : Byte) : (complete op st b s).trace = s.trace ++ [.bus (eventOf s.cfg s.phase st b op)] := rfl
@[simp] theorem complete_cfg (op : Prim) (st b : Byte) : (complete op st b s).cfg = s.cfg := rfl
@[simp] theorem complete_env (op : Prim) (st b : Byte) : (complete op st b s).env = s.env := rfl
@[simp] theorem complete_draws (op : Prim) (st b : Byte) : (complete op st b s).draws = s.draws := rfl
@[simp] theorem complete_requests (op : Prim) (st b : Byte) : (complete op st b s).requests = s.requests := rfl
@[simp] theorem complete_poll (op : Prim) (st b : Byte) : (complete op st b s).poll = s.poll := rfl

/-! ### stopBus -/

@[simp] theorem stopBus_data : (stopBus s).data = s.data := rfl
@[simp] theorem stopBus_status : (stopBus s).status = .unspecified := rfl
@[simp] theorem stopBus_done : (stopBus s).done = s.done := rfl
@[simp] theorem stopBus_phase : (stopBus s).phase = .idle := rfl
@[simp] theorem stopBus_inflight : (stopBus s).inflight = s.inflight := rfl
@[simp] theorem stopBus_fseq : (stopBus s).fseq = s.fseq := rfl
@[simp] theorem stopBus_fstep : (stopBus s).fstep = s.fstep := rfl
@[simp] theorem stopBus_freg : (stopBus s).freg = s.freg := rfl
@[simp] theorem stopBus_ferr : (stopBus s).ferr = s.ferr := rfl
@[simp] theorem stopBus_fbyte : (stopBus s).fbyte = s.fbyte := rfl
@[simp] theorem stopBus_rsp : (stopBus s).rsp = s.rsp := rfl
@[simp] theorem stopBus_trace : (stopBus s).trace = s.trace ++ [.bus (.stop (s.phase != .idle))] := rfl
@[simp] theorem stopBus_cfg : (stopBus s).cfg = s.cfg := rfl
@[simp] theorem stopBus_env : (stopBus s).env = s.env := rfl
@[simp] theorem stopBus_draws : (stopBus s).draws = s.draws := rfl
@[simp] theorem stopBus_requests : (stopBus s).requests = s.requests := rfl
@[simp] theorem stopBus_poll : (stopBus s).poll = s.poll := rfl

/-! ### accept -/

@[simp] theorem accept_data (q : FSeq) : (accept q s).data = s.data := rfl
@[simp] theorem accept_status (q : FSeq) : (accept q s).status = s.status := rfl
@[simp] theorem accept_done (q : FSeq) : (accept q s).done = s.done := rfl
@[simp] theorem accept_phase (q : FSeq) : (accept q s).phase = s.phase := rfl
@[simp] theorem accept_inflight (q : FSeq) : (accept q s).inflight = s.inflight := rfl
@[simp] theorem accept_fseq (q : FSeq) : (accept q s).fseq = q := rfl
@[simp] theorem accept_fstep (q : FSeq) : (accept q s).fstep = 1 := rfl
@[simp] theorem accept_freg (q : FSeq) : (accept q s).freg = s.freg := rfl
@[simp] theorem accept_ferr (q : FSeq) : (accept q s).ferr = .ok := rfl
@[simp] theorem accept_fbyte (q : FSeq) : (accept q s).fbyte = s.cfg.failByte := rfl
@[simp] theorem accept_rsp (q : FSeq) : (accept q s).rsp = s.rsp := rfl
@[simp] theorem accept_trace (q : FSeq) : (accept q s).trace = s.trace := rfl
@[simp] theorem accept_cfg (q : FSeq) : (accept q s).cfg = s.cfg := rfl
@[simp] theorem accept_env (q : FSeq) : (accept q s).env = s.env := rfl
@[simp] theorem accept_draws (q : FSeq) : (accept q s).draws = s.draws := rfl
@[simp] theorem accept_requests (q : FSeq) : (accept q s).requests = s.requests := rfl
@[simp] theorem accept_poll (q : FSeq) : (accept q s).poll = s.poll := rfl

/-! ### passed -/

@[simp] theorem passed_data (r : FramerRow) : (passed r s).data = s.data := rfl
@[simp] theorem passed_status (r : FramerRow) : (passed r s).status = s.status := rfl
@[simp] theorem passed_done (r : FramerRow) : (passed r s).done = s.done := rfl
@[simp] theorem passed_phase (r : FramerRow) : (passed r s).phase = s.phase := rfl
@[simp] theorem passed_inflight (r : FramerRow) : (passed r s).inflight = s.inflight := rfl
@[simp] theorem passed_fseq (r : FramerRow) : (passed r s).fseq = s.fseq := rfl
@[simp] theorem passed_fstep (r : FramerRow) : (passed r s).fstep = s.fstep + 1 := rfl
@[simp] theorem passed_freg (r : FramerRow) : (passed r s).freg = s.freg := rfl
@[simp] theorem passed_ferr (r : FramerRow) : (passed r s).ferr = s.ferr := rfl
@[simp] theorem passed_fbyte (r : FramerRow) : (passed r s).fbyte = if r.capture then s.data else s.fbyte := rfl
@[simp] theorem passed_rsp (r : FramerRow) : (passed r s).rsp = s.rsp := rfl
@[simp] theorem passed_trace (r : FramerRow) : (passed r s).trace = s.trace := rfl
@[simp] theorem passed_cfg (r : FramerRow) : (passed r s).cfg = s.cfg := rfl
@[simp] theorem passed_env (r : FramerRow) : (passed r s).env = s.env := rfl
@[simp] theorem passed_draws (r : FramerRow) : (passed r s).draws = s.draws := rfl
@[simp] theorem passed_requests (r : FramerRow) : (passed r s).requests = s.requests := rfl
@[simp] theorem passed_poll (r : FramerRow) : (passed r s).poll = s.poll := rfl

/-! ### mismatch -/

@[simp] theorem mismatch_data (c : ErrorCode) : (mismatch c s).data = s.data := rfl
@[simp] theorem mismatch_status (c : ErrorCode) : (mismatch c s).status = s.status := rfl
@[simp] theorem mismatch_done (c : ErrorCode) : (mismatch c s).done = s.done := rfl
@[simp] theorem mismatch_phase (c : ErrorCode) : (mismatch c s).phase = s.phase := rfl
@[simp] theorem mismatch_inflight (c : ErrorCode) : (mismatch c s).inflight = s.inflight := rfl
@[simp] theorem mismatch_fseq (c : ErrorCode) : (mismatch c s).fseq = s.fseq := rfl
@[simp] theorem mismatch_fstep (c : ErrorCode) : (mismatch c s).fstep = stopStep s.fseq := rfl
@[simp] theorem mismatch_freg (c : ErrorCode) : (mismatch c s).freg = s.freg := rfl
@[simp] theorem mismatch_ferr (c : ErrorCode) : (mismatch c s).ferr = c := rfl
@[simp] theorem mismatch_fbyte (c : ErrorCode) : (mismatch c s).fbyte = s.fbyte := rfl
@[simp] theorem mismatch_rsp (c : ErrorCode) : (mismatch c s).rsp = s.rsp := rfl
@[simp] theorem mismatch_trace (c : ErrorCode) : (mismatch c s).trace = s.trace := rfl
@[simp] theorem mismatch_cfg (c : ErrorCode) : (mismatch c s).cfg = s.cfg := rfl
@[simp] theorem mismatch_env (c : ErrorCode) : (mismatch c s).env = s.env := rfl
@[simp] theorem mismatch_draws (c : ErrorCode) : (mismatch c s).draws = s.draws := rfl
@[simp] theorem mismatch_requests (c : ErrorCode) : (mismatch c s).requests = s.requests := rfl
@[simp] theorem mismatch_poll (c : ErrorCode) : (mismatch c s).poll = s.poll := rfl

/-! ### release -/

@[simp] theorem release_data : (release s).data = s.data := rfl
@[simp] theorem release_status : (release s).status = s.status := rfl
@[simp] theorem release_done : (release s).done = s.done := rfl
@[simp] theorem release_phase : (release s).phase = s.phase := rfl
@[simp] theorem release_inflight : (release s).inflight = s.inflight := rfl
@[simp] theorem release_fseq : (release s).fseq = .none := rfl
@[simp] theorem release_fstep : (release s).fstep = 0 := rfl
@[simp] theorem release_freg : (release s).freg = s.freg := rfl
@[simp] theorem release_ferr : (release s).ferr = s.ferr := rfl
@[simp] theorem release_fbyte : (release s).fbyte = s.fbyte := rfl
@[simp] theorem release_rsp : (release s).rsp = s.rsp := rfl
@[simp] theorem release_trace : (release s).trace = s.trace := rfl
@[simp] theorem release_cfg : (release s).cfg = s.cfg := rfl
@[simp] theorem release_env : (release s).env = s.env := rfl
@[simp] theorem release_draws : (release s).draws = s.draws := rfl
@[simp] theorem release_requests : (release s).requests = s.requests := rfl
@[simp] theorem release_poll : (release s).poll = s.poll := rfl

/-! ### setPoll -/

@[simp] theorem setPoll_data (p : PollHost) : (setPoll p s).data = s.data := rfl
@[simp] theorem setPoll_status (p : PollHost) : (setPoll p s).status = s.status := rfl
@[simp] theorem setPoll_done (p : PollHost) : (setPoll p s).done = s.done := rfl
@[simp] theorem setPoll_phase (p : PollHost) : (setPoll p s).phase = s.phase := rfl
@[simp] theorem setPoll_inflight (p : PollHost) : (setPoll p s).inflight = s.inflight := rfl
@[simp] theorem setPoll_fseq (p : PollHost) : (setPoll p s).fseq = s.fseq := rfl
@[simp] theorem setPoll_fstep (p : PollHost) : (setPoll p s).fstep = s.fstep := rfl
@[simp] theorem setPoll_freg (p : PollHost) : (setPoll p s).freg = s.freg := rfl
@[simp] theorem setPoll_ferr (p : PollHost) : (setPoll p s).ferr = s.ferr := rfl
@[simp] theorem setPoll_fbyte (p : PollHost) : (setPoll p s).fbyte = s.fbyte := rfl
@[simp] theorem setPoll_rsp (p : PollHost) : (setPoll p s).rsp = s.rsp := rfl
@[simp] theorem setPoll_trace (p : PollHost) : (setPoll p s).trace = s.trace := rfl
@[simp] theorem setPoll_cfg (p : PollHost) : (setPoll p s).cfg = s.cfg := rfl
@[simp] theorem setPoll_env (p : PollHost) : (setPoll p s).env = s.env := rfl
@[simp] theorem setPoll_draws (p : PollHost) : (setPoll p s).draws = s.draws := rfl
@[simp] theorem setPoll_requests (p : PollHost) : (setPoll p s).requests = s.requests := rfl
@[simp] theorem setPoll_poll (p : PollHost) : (setPoll p s).poll = some p := rfl

/-! ### Views of the history -/

theorem bus_eq_of_trace (t : State) (h : t.trace = s.trace) : t.bus = s.bus := by
  simp [State.bus, h]

theorem bus_append (t : State) (es : List Obs) (h : t.trace = s.trace ++ es) :
    t.bus = s.bus ++ es.filterMap Obs.busEvent? := by
  simp [State.bus, h]

theorem sink_eq_of_trace (t : State) (h : t.trace = s.trace) : t.sink = s.sink := by
  simp [State.sink, h]

theorem sink_append (t : State) (es : List Obs) (h : t.trace = s.trace ++ es) :
    t.sink = s.sink ++ es.filterMap Obs.sinkByte? := by
  simp [State.sink, h]

theorem responses_eq_of_trace (t : State) (h : t.trace = s.trace) : t.responses = s.responses := by
  simp [State.responses, h]

theorem responses_append (t : State) (es : List Obs) (h : t.trace = s.trace ++ es) :
    t.responses = s.responses ++ es.filterMap Obs.response? := by
  simp [State.responses, h]

@[simp] theorem sinkSend_bus (b : Byte) : (sinkSend b s).bus = s.bus := by
  simp [State.bus, Obs.busEvent?]
@[simp] theorem sinkSend_sink (b : Byte) : (sinkSend b s).sink = s.sink ++ [b] := by
  simp [State.sink, Obs.sinkByte?]
@[simp] theorem sinkSend_responses (b : Byte) : (sinkSend b s).responses = s.responses := by
  simp [State.responses, Obs.response?]
@[simp] theorem deliver_bus (w : Word16) : (deliver w s).bus = s.bus := by
  simp [State.bus, Obs.busEvent?]
@[simp] theorem deliver_sink (w : Word16) : (deliver w s).sink = s.sink := by
  simp [State.sink, Obs.sinkByte?]
@[simp] theorem deliver_responses (w : Word16) : (deliver w s).responses = s.responses ++ [w] := by
  simp [State.responses, Obs.response?]
@[simp] theorem issue_bus (op : Prim) : (issue op s).bus = s.bus := rfl
@[simp] theorem issue_sink (op : Prim) : (issue op s).sink = s.sink := rfl
@[simp] theorem issue_responses (op : Prim) : (issue op s).responses = s.responses := rfl
@[simp] theorem complete_bus (op : Prim) (st b : Byte) : (complete op st b s).bus = s.bus ++ [eventOf s.cfg s.phase st b op] := by
  simp [State.bus, Obs.busEvent?]
@[simp] theorem complete_sink (op : Prim) (st b : Byte) : (complete op st b s).sink = s.sink := by
  simp [State.sink, Obs.sinkByte?]
@[simp] theorem complete_responses (op : Prim) (st b : Byte) : (complete op st b s).responses = s.responses := by
  simp [State.responses, Obs.response?]
@[simp] theorem stopBus_bus : (stopBus s).bus = s.bus ++ [.stop (s.phase != .idle)] := by
  simp [State.bus, Obs.busEvent?]
@[simp] theorem stopBus_sink : (stopBus s).sink = s.sink := by
  simp [State.sink, Obs.sinkByte?]
@[simp] theorem stopBus_responses : (stopBus s).responses = s.responses := by
  simp [State.responses, Obs.response?]
@[simp] theorem accept_bus (q : FSeq) : (accept q s).bus = s.bus := rfl
@[simp] theorem accept_sink (q : FSeq) : (accept q s).sink = s.sink := rfl
@[simp] theorem accept_responses (q : FSeq) : (accept q s).responses = s.responses := rfl
@[simp] theorem passed_bus (r : FramerRow) : (passed r s).bus = s.bus := rfl
@[simp] theorem passed_sink (r : FramerRow) : (passed r s).sink = s.sink := rfl
@[simp] theorem passed_responses (r : FramerRow) : (passed r s).responses = s.responses := rfl
@[simp] theorem mismatch_bus (c : ErrorCode) : (mismatch c s).bus = s.bus := rfl
@[simp] theorem mismatch_sink (c : ErrorCode) : (mismatch c s).sink = s.sink := rfl
@[simp] theorem mismatch_responses (c : ErrorCode) : (mismatch c s).responses = s.responses := rfl
@[simp] theorem release_bus : (release s).bus = s.bus := rfl
@[simp] theorem release_sink : (release s).sink = s.sink := rfl
@[simp] theorem release_responses : (release s).responses = s.responses := rfl
@[simp] theorem setPoll_bus (p : PollHost) : (setPoll p s).bus = s.bus := rfl
@[simp] theorem setPoll_sink (p : PollHost) : (setPoll p s).sink = s.sink := rfl
@[simp] theorem setPoll_responses (p : PollHost) : (setPoll p s).responses = s.responses := rfl

/-! ### BUSY -/

theorem not_busy : s.busy = false ↔ s.inflight = none ∧ s.fseq = .none := by
  cases h : s.inflight <;> simp [State.busy, h]

theorem inflight_of_not_busy (h : s.busy = false) : s.inflight = none := ((not_busy s).1 h).1

theorem fseq_of_not_busy (h : s.busy = false) : s.fseq = .none := ((not_busy s).1 h).2

@[simp] theorem issue_busy (op : Prim) : (issue op s).busy = true := by simp [State.busy]

@[simp] theorem release_busy (h : s.inflight = none) : (release s).busy = false := by
  simp [State.busy, h]

end Sys2Proof.Machine
end

