-- ==== Sys2Proof/Laws/Ops.lean ====
section
/-! SUPPORT. One lemma for each shared operation of Machine/Ops.lean that says once everything it can do:
the status read, a question to the bus, a host's primitive, the framer's stop step, the framer's rows, the
resumption of a held command, the polling loop's response, the step. -/

namespace Sys2Proof.Machine

variable {s t : State}

/-! ### The status register -/

theorem readStatus_code {st : Byte} (h : s.status = .code st) : readStatus s = (st, s) := by
  simp [readStatus, h]

theorem readStatus_unspecified (h : s.status = .unspecified) :
    readStatus s = (Config.freeByte s.draws, { s with draws := s.draws + 1 }) := by
  simp [readStatus, h]

theorem respondStatus_code {st byte : Byte} (h : s.status = .code st) :
    respondStatus byte s = deliver (responseWord st byte) s := by
  simp [respondStatus, readStatus_code h]

/-! ### Asking the bus -/

theorem askBus_done {op : Prim} {st b : Byte} {rest : List BusAnswer} (h : s.env = .done st b :: rest) :
    askBus op s = .completed (complete op st b { s with env := rest }) := by
  simp [askBus, h]

theorem askBus_held {op : Prim} (h : notAnswered s) : askBus op s = .held (holdState s) := by
  unfold askBus holdState
  split
  · simp_all
  · simp_all
  · simp_all
  · rename_i st b rest heq
    exact absurd heq (h st b rest)

/-- The two things a question to the bus comes to. -/
theorem askBus_cases (op : Prim) (s : State) :
    (∃ st b rest, s.env = .done st b :: rest ∧
      askBus op s = .completed (complete op st b { s with env := rest })) ∨
    (notAnswered s ∧ askBus op s = .held (holdState s)) := by
  by_cases h : notAnswered s
  · exact .inr ⟨h, askBus_held h⟩
  · simp only [notAnswered, ne_eq, not_forall, not_not] at h
    obtain ⟨st, b, rest, h⟩ := h
    exact .inl ⟨st, b, rest, h, askBus_done h⟩

/-- A held state differs from the state that asked only in a `wait` used up. -/
theorem holdState_eq (s : State) : ∃ env, holdState s = { s with env := env } ∧
    (env = s.env ∨ s.env = .wait :: env) := by
  unfold holdState
  split
  · exact ⟨_, rfl, .inr ‹_›⟩
  · exact ⟨s.env, rfl, .inl rfl⟩

theorem holdState_of_stall {rest : List BusAnswer} (h : s.env = .stall :: rest) : holdState s = s := by
  simp [holdState, h]

/-! ### A primitive of the host -/

theorem awaitForHost_done {op : Prim} {st b : Byte} {rest : List BusAnswer}
    (h : s.env = .done st b :: rest) :
    awaitForHost op s = .next (deliver
      (responseWord st (primByte op (complete op st b { s with env := rest })))
      (complete op st b { s with env := rest })) := by
  simp [awaitForHost, askBus_done h, respondStatus_code]

theorem awaitForHost_held {op : Prim} (h : notAnswered s) : awaitForHost op s = .next (holdState s) := by
  simp [awaitForHost, askBus_held h]

/-- What a blocking primitive of the host does when it answers a next state. -/
theorem hostPrimitive_cases {op : Prim} (h : hostPrimitive op s = .next t) :
    s.busy = false ∧ refusalOf op s.phase = none ∧
      ((∃ st b rest, s.env = .done st b :: rest ∧
          t = deliver (responseWord st (primByte op (complete op st b { issue op s with env := rest })))
            (complete op st b { issue op s with env := rest })) ∨
        (notAnswered s ∧ t = holdState (issue op s))) := by
  unfold hostPrimitive whenReady at h
  split at h
  · cases h
  · rename_i hb
    split at h
    · cases h
    · rename_i hr
      refine ⟨by simpa using hb, hr, ?_⟩
      by_cases hn : notAnswered s
      · rw [awaitForHost_held (s := issue op s) hn] at h
        exact .inr ⟨hn, by cases h; rfl⟩
      · simp only [notAnswered, ne_eq, not_forall, not_not] at hn
        obtain ⟨st, b, rest, hn⟩ := hn
        rw [awaitForHost_done (s := issue op s) hn] at h
        exact .inl ⟨st, b, rest, hn, by cases h; rfl⟩

theorem hostPrimitive_done {op : Prim} {st b : Byte} {rest : List BusAnswer} (hb : s.busy = false)
    (hr : refusalOf op s.phase = none) (h : s.env = .done st b :: rest) :
    hostPrimitive op s = .next (deliver
      (responseWord st (primByte op (complete op st b { issue op s with env := rest })))
      (complete op st b { issue op s with env := rest })) := by
  simp [hostPrimitive, whenReady, hb, hr, awaitForHost_done (s := issue op s) h]

theorem hostPrimitive_held {op : Prim} (hb : s.busy = false) (hr : refusalOf op s.phase = none)
    (h : notAnswered s) : hostPrimitive op s = .next (holdState (issue op s)) := by
  simp [hostPrimitive, whenReady, hb, hr, awaitForHost_held (s := issue op s) h]

theorem hostPrimitive_refused {op : Prim} {r : Refusal} (hb : s.busy = false)
    (hr : refusalOf op s.phase = some r) : hostPrimitive op s = .refused r := by
  simp [hostPrimitive, whenReady, hb, hr]

/-! ### The framer's stop step -/

/-- The stop step on the success path: one STOP, one response, the framer at rest. -/
theorem finish_ok (h : s.ferr = .ok) : finish s = { s with
    phase := .idle, status := .unspecified, fseq := .none, fstep := 0, rsp := framerResponse s,
    trace := s.trace ++ [.bus (.stop (s.phase != .idle)), .response (framerResponse s)] } := by
  simp [finish, respondFramer, reportFailure, release, deliver, record, stopBus, framerResponse, h]

/-- The stop step on the failure path: one STOP, then the error byte, then the response (R160). -/
theorem finish_failed (h : s.ferr ≠ .ok) : finish s = { s with
    phase := .idle, status := .unspecified, fseq := .none, fstep := 0, rsp := framerResponse s,
    trace := s.trace ++ [.bus (.stop (s.phase != .idle)), .sink (errByte s.cfg s.ferr),
      .response (framerResponse s)] } := by
  simp [finish, respondFramer, reportFailure, release, deliver, record, stopBus, sinkSend,
    framerResponse, h]

/-- What the stop step leaves on either path. -/
theorem finish_spec (s : State) : ∃ tr, finish s = { s with
      phase := .idle, status := .unspecified, fseq := .none, fstep := 0, rsp := framerResponse s,
      trace := s.trace ++ .bus (.stop (s.phase != .idle)) :: (tr ++ [.response (framerResponse s)]) } ∧
    tr = if s.ferr = .ok then [] else [.sink (errByte s.cfg s.ferr)] := by
  by_cases h : s.ferr = .ok
  · exact ⟨[], by simp [finish_ok h], by simp [h]⟩
  · exact ⟨[.sink (errByte s.cfg s.ferr)], by simp [finish_failed h], by simp [h]⟩

/-! ### The framer's rows -/

/-- A row whose primitive completes with the expected status: the sequence goes on. -/
theorem runRows_match {r : FramerRow} {rs : List FramerRow} {b : Byte} {rest : List BusAnswer}
    (hr : refusalOf r.op s.phase = none) (h : s.env = .done r.expected b :: rest) :
    runRows (r :: rs) s =
      runRows rs (passed r (complete r.op r.expected b { issue r.op s with env := rest })) := by
  simp [runRows, hr, askBus_done (s := issue r.op s) h, checkRow]

/-- A row whose primitive completes with another status: the failure exit. -/
theorem runRows_mismatch {r : FramerRow} {rs : List FramerRow} {st b : Byte} {rest : List BusAnswer}
    (hr : refusalOf r.op s.phase = none) (h : s.env = .done st b :: rest) (hne : st ≠ r.expected) :
    runRows (r :: rs) s =
      .next (finish (mismatch r.err (complete r.op st b { issue r.op s with env := rest }))) := by
  simp [runRows, hr, askBus_done (s := issue r.op s) h, checkRow, hne]

/-- A row whose primitive is not completed: the framer is held in it. -/
theorem runRows_held {r : FramerRow} {rs : List FramerRow} (hr : refusalOf r.op s.phase = none)
    (h : notAnswered s) : runRows (r :: rs) s = .next (holdState (issue r.op s)) := by
  simp [runRows, hr, askBus_held (s := issue r.op s) h, checkRow]

/-- The induction over a framer sequence, packaged once: a property `P` of the rows left and the state
that every matching row keeps gives `Q` of the state the run answers, if it does so where the rows run
out, where a row is held and where a row mismatches. -/
theorem runRows_induction {P : List FramerRow → State → Prop} {Q : State → Prop}
    (done : ∀ s, P [] s → Q (finish s))
    (held : ∀ r rs s, P (r :: rs) s → refusalOf r.op s.phase = none → notAnswered s →
      Q (holdState (issue r.op s)))
    (fail : ∀ r rs s st b rest, P (r :: rs) s → refusalOf r.op s.phase = none →
      s.env = .done st b :: rest → st ≠ r.expected →
      Q (finish (mismatch r.err (complete r.op st b { issue r.op s with env := rest }))))
    (pass : ∀ r rs s b rest, P (r :: rs) s → refusalOf r.op s.phase = none →
      s.env = .done r.expected b :: rest →
      P rs (passed r (complete r.op r.expected b { issue r.op s with env := rest })))
    (rows : List FramerRow) (s t : State) (hP : P rows s) (h : runRows rows s = .next t) : Q t := by
  induction rows generalizing s with
  | nil =>
    simp only [runRows, Host.Outcome.next.injEq] at h
    exact h ▸ done s hP
  | cons r rs ih =>
    cases hr : refusalOf r.op s.phase with
    | some q => simp [runRows, hr] at h
    | none =>
      by_cases hn : notAnswered s
      · rw [runRows_held hr hn] at h
        cases h
        exact held r rs s hP hr hn
      · simp only [notAnswered, ne_eq, not_forall, not_not] at hn
        obtain ⟨st, b, rest, hn⟩ := hn
        by_cases he : st = r.expected
        · subst he
          rw [runRows_match hr hn] at h
          exact ih _ (pass r rs s b rest hP hr hn) h
        · rw [runRows_mismatch hr hn he] at h
          cases h
          exact fail r rs s st b rest hP hr hn he

/-! ### Resumption -/

theorem resume_not_busy (h : s.busy = false) : resume s = .next s := by
  simp [resume, inflight_of_not_busy s h, fseq_of_not_busy s h]

theorem resume_host {op : Prim} (h : s.inflight = some op) (hq : s.fseq = .none) :
    resume s = awaitForHost op s := by
  simp [resume, h, hq]

theorem resume_framer {op : Prim} (h : s.inflight = some op) (hq : s.fseq ≠ .none) :
    resume s = resumeFramer op s := by
  unfold resume
  rw [h]
  cases hf : s.fseq <;> simp_all

/-- A framer held in the row it stands at goes on from that row. -/
theorem resumeFramer_row {r : FramerRow} {rs : List FramerRow} (h : rowsFromStep s = r :: rs) :
    resumeFramer r.op s = checkRow r (runRows rs) (askBus r.op s) := by
  simp [resumeFramer, h]

/-- What the block's own moves leave alone: the configuration, the requests and the polling loop. -/
structure SameAgents (s t : State) : Prop where
  cfg : t.cfg = s.cfg
  requests : t.requests = s.requests
  poll : t.poll = s.poll

theorem SameAgents.refl (s : State) : SameAgents s s := ⟨rfl, rfl, rfl⟩

theorem holdState_agents (s : State) : SameAgents s (holdState s) := by
  obtain ⟨env, h, -⟩ := holdState_eq s
  exact h ▸ ⟨rfl, rfl, rfl⟩

theorem finish_agents (s : State) : SameAgents s (finish s) := by
  obtain ⟨tr, h, -⟩ := finish_spec s
  exact h ▸ ⟨rfl, rfl, rfl⟩

theorem runRows_agents {rows : List FramerRow} (h : runRows rows s = .next t) : SameAgents s t := by
  refine runRows_induction (P := fun _ u => SameAgents s u) (Q := SameAgents s) ?_ ?_ ?_ ?_ rows s t
    (.refl s) h
  · intro u hu
    obtain ⟨a, b, c⟩ := finish_agents u
    exact ⟨a.trans hu.cfg, b.trans hu.requests, c.trans hu.poll⟩
  · intro r _ u hu _ _
    obtain ⟨a, b, c⟩ := holdState_agents (issue r.op u)
    exact ⟨a.trans hu.cfg, b.trans hu.requests, c.trans hu.poll⟩
  · intro r _ u st b rest hu _ _ _
    obtain ⟨a, b, c⟩ := finish_agents (mismatch r.err (complete r.op st b { issue r.op u with env := rest }))
    exact ⟨a.trans hu.cfg, b.trans hu.requests, c.trans hu.poll⟩
  · intro _ _ _ _ _ hu _ _
    exact ⟨hu.cfg, hu.requests, hu.poll⟩

theorem awaitForHost_agents {op : Prim} (h : awaitForHost op s = .next t) : SameAgents s t := by
  obtain ⟨st, b, rest, he, -⟩ | ⟨hn, -⟩ := askBus_cases op s
  · rw [awaitForHost_done he] at h
    cases h
    exact ⟨rfl, rfl, rfl⟩
  · rw [awaitForHost_held hn] at h
    cases h
    exact holdState_agents s

theorem checkRow_agents {r : FramerRow} {rs : List FramerRow}
    (h : checkRow r (runRows rs) (askBus r.op s) = .next t) : SameAgents s t := by
  obtain ⟨st, b, rest, -, ha⟩ | ⟨-, ha⟩ := askBus_cases r.op s
  · rw [ha] at h
    unfold checkRow at h
    split at h
    · cases ‹_ = Progress.held _›
    · cases ‹_ = Progress.completed _›
      split at h
      · obtain ⟨a, b, c⟩ := runRows_agents h
        exact ⟨a, b, c⟩
      · cases h
        obtain ⟨a, b, c⟩ := finish_agents (mismatch r.err (complete r.op st b { s with env := rest }))
        exact ⟨a, b, c⟩
  · rw [ha] at h
    cases h
    exact holdState_agents s

theorem resume_agents (h : resume s = .next t) : SameAgents s t := by
  unfold resume at h
  split at h
  · cases h
    exact .refl s
  · unfold continueFramer at h
    split at h
    · cases h
    · exact runRows_agents h
  · exact awaitForHost_agents h
  · rename_i op _ _ _
    unfold resumeFramer at h
    split at h
    · cases h
    · rename_i r rs _
      split at h
      · rename_i ho
        exact checkRow_agents (r := r) (ho ▸ h)
      · cases h

/-! ### The polling loop's response -/

theorem pollTake_none (h : s.poll = none) : pollTake s = s := by
  simp [pollTake, h]

theorem pollTake_busy (h : s.busy = true) : pollTake s = s := by
  unfold pollTake
  split <;> simp [h]

theorem pollTake_waiting {p : PollHost} (hb : s.busy = false) (h : s.poll = some p)
    (hw : p.waiting = true) : pollTake s = pollResponse s.rsp p s := by
  simp [pollTake, h, hw, hb]

theorem setPoll_eq (p : PollHost) (s : State) :
    setPoll p s = { s with poll := some p, trace := s.trace ++ [] } := by
  simp [setPoll]

/-- Taking a response changes the loop's own state only, and appends at most one byte to the sink. -/
theorem pollTake_spec (s : State) : ∃ q tr, pollTake s = { s with poll := q, trace := s.trace ++ tr } ∧
    (tr = [] ∨ ∃ b, tr = [.sink b]) := by
  unfold pollTake
  split
  · exact ⟨s.poll, [], by simp, .inl rfl⟩
  · split
    · unfold pollResponse
      simp only
      split <;> split <;> try split
      all_goals first
        | exact ⟨_, _, setPoll_eq _ s, .inl rfl⟩
        | exact ⟨_, _, rfl, .inr ⟨_, rfl⟩⟩
    · exact ⟨s.poll, [], by simp, .inl rfl⟩

/-! ### The step -/

theorem advance_busy (h : s.busy = true) : advance s = thenNext (resume s) pollTake := by
  simp [advance, h]

theorem step_no_request (h : s.requests = []) : step s = advance s := by
  simp [step, h]

theorem step_waits {a : Access} {rest : List Request} (hb : s.busy = true)
    (h : s.requests = ⟨.host, a⟩ :: rest) : step s = advance s := by
  simp [step, h, Request.waits, hb]

theorem step_bench {a : Access} {rest : List Request} (h : s.requests = ⟨.bench, a⟩ :: rest) :
    step s = serve a { s with requests := rest } := by
  simp [step, h, Request.waits]

theorem step_not_busy {who : Requester} {a : Access} {rest : List Request} (hb : s.busy = false)
    (h : s.requests = ⟨who, a⟩ :: rest) : step s = serve a { s with requests := rest } := by
  simp [step, h, Request.waits, hb]

/-- The two things a step does: the machine's own move, or one access served. -/
theorem step_cases (s : State) : step s = advance s ∨
    ∃ r rest, s.requests = r :: rest ∧ r.waits s = false ∧
      step s = serve r.access { s with requests := rest } := by
  cases h : s.requests with
  | nil => exact .inl (step_no_request h)
  | cons r rest =>
    cases hw : r.waits s
    · exact .inr ⟨r, rest, rfl, hw, by simp [step, h, hw]⟩
    · exact .inl (by simp [step, h, hw])

end Sys2Proof.Machine
end

