-- ==== Sys2Proof/Laws/PerInstr.lean ====
section
/-! SUPPORT. The per-instruction family `FieldsOfWord`: the word of every command carries its operation
code in bits 15:8 and its operand in bits 7:0, and is well formed (R70, R75). -/

namespace Sys2Proof.Laws.FieldsOfWord

/-- The fields of the encoded word are the command's operation code and operand, and they spell a command. -/
def Statement (i : Instr) : Prop :=
  wordFields (encode i) = ⟨opcode i, operand i⟩ ∧ CommandWord.wf ⟨opcode i, operand i⟩ = true

/-- The two fields of a word built from two bytes. -/
theorem wordFields_append (op arg : Byte) : wordFields (op ++ arg : Word16) = ⟨op, arg⟩ := by
  have h1 : (op ++ arg : Word16).extractLsb' 8 8 = op := BitVec.extractLsb'_append_eq_left
  have h2 : (op ++ arg : Word16).extractLsb' 0 8 = arg := BitVec.extractLsb'_append_eq_right
  simp [wordFields, opField, argField, h1, h2]

theorem start : Statement .start :=
  ⟨wordFields_append _ _, by simp [CommandWord.wf, CommandWord.opKnown, CommandWord.argAllowed, opcode, operand]⟩

theorem write (v : Byte) : Statement (.write v) :=
  ⟨wordFields_append _ _, by simp [CommandWord.wf, CommandWord.opKnown, CommandWord.argAllowed, opcode, operand]⟩

theorem readAck : Statement .readAck :=
  ⟨wordFields_append _ _, by simp [CommandWord.wf, CommandWord.opKnown, CommandWord.argAllowed, opcode, operand]⟩

theorem readNack : Statement .readNack :=
  ⟨wordFields_append _ _, by simp [CommandWord.wf, CommandWord.opKnown, CommandWord.argAllowed, opcode, operand]⟩

theorem stop : Statement .stop :=
  ⟨wordFields_append _ _, by simp [CommandWord.wf, CommandWord.opKnown, CommandWord.argAllowed, opcode, operand]⟩

theorem status : Statement .status :=
  ⟨wordFields_append _ _, by simp [CommandWord.wf, CommandWord.opKnown, CommandWord.argAllowed, opcode, operand]⟩

theorem wakeup : Statement .wakeup :=
  ⟨wordFields_append _ _, by simp [CommandWord.wf, CommandWord.opKnown, CommandWord.argAllowed, opcode, operand]⟩

theorem readreg (r : Byte) : Statement (.readreg r) :=
  ⟨wordFields_append _ _, by simp [CommandWord.wf, CommandWord.opKnown, CommandWord.argAllowed, opcode, operand]⟩

end Sys2Proof.Laws.FieldsOfWord
end

