-- ==== Sys2Proof/Tests/Slice0.lean ====
section
/-! SUPPORT. The model's own tests. Every expected value is one of spec/95_test_vectors.md (the row is named)
or of the rule named; none is the model's own answer. -/

namespace Sys2Proof.Tests

open Sys2Proof.Machine

/-! ### Well-formedness: what each check refuses -/

theorem test_wf_refuses_unknown_op : CommandWord.opKnown ⟨0x07#8, 0x00#8⟩ = false := by decide
theorem test_wf_refuses_argument : CommandWord.argAllowed ⟨0x01#8, 0x01#8⟩ = false := by decide
theorem test_wf_refuses_reserved_word : CommandWord.wf ⟨0x0F#8, 0x00#8⟩ = false := by decide
theorem test_wf_accepts_operand : CommandWord.wf ⟨0x11#8, 0xFF#8⟩ = true := by decide
theorem test_cfg_refuses_equal_statuses :
    Cfg.statusesDistinct { Cfg.default with stRepStart := 0x08#8 } = false := by decide
theorem test_cfg_refuses_status_outside_space :
    Cfg.statusesInSpace { Cfg.default with stStart := 0x09#8 } = false := by decide
theorem test_cfg_refuses_equal_errors :
    Cfg.errorsDistinct { Cfg.default with errStart := 0x00#8 } = false := by decide
theorem test_cfg_refuses_equal_directions :
    Cfg.directionsDistinct { Cfg.default with dirRead := 0#1 } = false := by decide
theorem test_cfg_default_valid : Cfg.default.valid = true := by decide

/-! ### Decoding: words written out from R70 and R74 (V1) -/

theorem test_decode_start : decode 0b0000000100000000#16 = .ok .start := by decide
theorem test_decode_write : decode 0b0000001011010000#16 = .ok (.write 0xD0#8) := by decide
theorem test_decode_read_ack : decode 0b0000001100000000#16 = .ok .readAck := by decide
theorem test_decode_read_nack : decode 0b0000010000000000#16 = .ok .readNack := by decide
theorem test_decode_stop : decode 0b0000010100000000#16 = .ok .stop := by decide
theorem test_decode_status : decode 0b0000011000000000#16 = .ok .status := by decide
theorem test_decode_wakeup : decode 0b0001000000000000#16 = .ok .wakeup := by decide
theorem test_decode_readreg : decode 0b0001000100111111#16 = .ok (.readreg 0x3F#8) := by decide
theorem test_decode_reserved_argument : decode 0x0580#16 = .invalid (.argument 0x05#8 0x80#8) := by decide
theorem test_decode_reserved_opcode : decode 0x1200#16 = .invalid (.opcode 0x12#8) := by decide
theorem test_decode_table_word : decodeTableWord 16 0x1140 = some (.readreg 0x40#8) := by decide
theorem test_assemble_register_name :
    assemble Cfg.default (.readreg .regAxisH) = .readreg 0x3F#8 := by decide
theorem test_address_bytes : (Cfg.default.slaW, Cfg.default.slaR) = (0xD0#8, 0xD1#8) := by decide
theorem test_address_byte_top : addrByte 0x7F#7 1#1 = 0xFF#8 := by decide

/-! ### Helpers -/

/-- The next state of an outcome. -/
def after : Result → Option State
  | .next s => some s
  | .fault _ => none
  | .refused _ => none

/-- The reason of a refusal. -/
def refusal? : Result → Option Refusal
  | .next _ => none
  | .fault _ => none
  | .refused r => some r

/-- The start state of table V3: a phase, DATA = 0x11, STATUS = 0x28 unless IDLE, and the answers to come. -/
def inPhase (p : Phase) (env : List BusAnswer) : State :=
  { State.reset with
    phase := p
    data := 0x11#8
    status := if p = .idle then .unspecified else .code 0x28#8
    env := env }

/-- Response, phase, status, data and bus history after a command. -/
def seen (o : Result) : Option (Word16 × Phase × StatusReg × Byte × List BusEvent) :=
  (after o).map fun s => (s.rsp, s.phase, s.status, s.data, s.bus)

/-- Response, bus history, sink and data after a command. -/
def report (o : Result) : Option (Word16 × List BusEvent × List Byte × Byte) :=
  (after o).map fun s => (s.rsp, s.bus, s.sink, s.data)

/-- The reset state with the answers to come (the status sequences of Part 1). -/
def withAnswers (env : List BusAnswer) : State := { State.reset with env := env }

def ack (st : Byte) : BusAnswer := .done st 0x00#8

/-! ### Primitives (V3) -/

/-- V3 row 1. -/
theorem test_start_first : seen (exec .start (inPhase .idle [ack 0x08#8])) =
    some (0x0800#16, .addr, .code 0x08#8, 0x11#8, [.start false 0x08#8]) := by decide

/-- V3 row 5. -/
theorem test_start_repeated : seen (exec .start (inPhase .mrEnd [ack 0x10#8])) =
    some (0x1000#16, .addr, .code 0x10#8, 0x11#8, [.start true 0x10#8]) := by decide

/-- V3 row 8. -/
theorem test_write_read_address : seen (exec (.write 0xD1#8) (inPhase .addr [ack 0x40#8])) =
    some (0x4000#16, .mr, .code 0x40#8, 0xD1#8, [.write .addrR 0xD1#8 0x40#8]) := by decide

/-- V3 row 12: an odd byte in MT is data. -/
theorem test_write_odd_data : seen (exec (.write 0x41#8) (inPhase .mt [ack 0x28#8])) =
    some (0x2800#16, .mt, .code 0x28#8, 0x41#8, [.write .data 0x41#8 0x28#8]) := by decide

/-- V3 row 17. -/
theorem test_read_ack : seen (exec .readAck (inPhase .mr [.done 0x50#8 0x12#8])) =
    some (0x5012#16, .mr, .code 0x50#8, 0x12#8, [.read 0x12#8 true 0x50#8]) := by decide

/-- V3 row 22. -/
theorem test_read_ack_refused :
    refusal? (exec .readAck (inPhase .addr [])) = some .readOutsideReadSession := by decide

/-- V3 row 20: a non-nominal status changes nothing but the status and the response. -/
theorem test_read_nack_non_nominal : seen (exec .readNack (inPhase .mr [.done 0x50#8 0x77#8])) =
    some (0x5077#16, .mrEnd, .code 0x50#8, 0x77#8, [.read 0x77#8 false 0x50#8]) := by decide

/-- V3 row 24 and P4: after the not-acknowledged byte. -/
theorem test_read_nack_refused : refusal? (exec .readNack (inPhase .mrEnd [])) = some .readAfterNack := by decide

/-- V3 row 28: no response, the session over. -/
theorem test_stop_open : seen (exec .stop (inPhase .mr [])) =
    some (0x0000#16, .idle, .unspecified, 0x11#8, [.stop true]) := by decide

/-- V3 row 26: a redundant stop. -/
theorem test_stop_redundant : seen (exec .stop (inPhase .idle [])) =
    some (0x0000#16, .idle, .unspecified, 0x11#8, [.stop false]) := by decide

/-- V3 row 30. -/
theorem test_status : seen (exec .status (inPhase .mt [])) =
    some (0x2800#16, .mt, .code 0x28#8, 0x11#8, []) := by decide

/-- V3 row 33: DATA is loaded at issue, nothing else is seen. -/
theorem test_write_stalled :
    (after (exec (.write 0xD0#8) (inPhase .addr [.stall]))).map
      (fun s => ((s.inflight, s.done, s.data), s.phase, s.status, s.trace)) =
    some ((some (.write 0xD0#8), false, 0xD0#8), .addr, .code 0x28#8, []) := by decide

/-- R92: the stalled state has no further step. -/
theorem test_stall_is_for_ever :
    after (step { inPhase .addr [.stall] with inflight := some .start }) =
      some { inPhase .addr [.stall] with inflight := some .start } := by decide

/-! ### Framer (S1, S2, S3, V4, V5) -/

/-- S3. -/
theorem test_wakeup_success :
    report (exec .wakeup (withAnswers [ack 0x08#8, ack 0x18#8, ack 0x28#8, ack 0x28#8])) =
    some (0x0000#16, [.start false 0x08#8, .write .addrW 0xD0#8 0x18#8, .write .data 0x6B#8 0x28#8,
      .write .data 0x00#8 0x28#8, .stop true], [], 0x00#8) := by decide

/-- V4 row 3. -/
theorem test_wakeup_step_three :
    report (exec .wakeup (withAnswers [ack 0x08#8, ack 0x18#8, ack 0x30#8])) =
    some (0x0300#16, [.start false 0x08#8, .write .addrW 0xD0#8 0x18#8, .write .data 0x6B#8 0x30#8,
      .stop true], [0x03#8], 0x6B#8) := by decide

/-- S1. -/
theorem test_readreg_success :
    report (exec (.readreg 0x3F#8) (withAnswers
      [ack 0x08#8, ack 0x18#8, ack 0x28#8, ack 0x10#8, ack 0x40#8, .done 0x58#8 0xA5#8])) =
    some (0x00A5#16, [.start false 0x08#8, .write .addrW 0xD0#8 0x18#8, .write .data 0x3F#8 0x28#8,
      .start true 0x10#8, .write .addrR 0xD1#8 0x40#8, .read 0xA5#8 false 0x58#8, .stop true], [],
      0xA5#8) := by decide

/-- S2 row 6: the byte received is not in the response. -/
theorem test_readreg_step_six :
    report (exec (.readreg 0x3F#8) (withAnswers
      [ack 0x08#8, ack 0x18#8, ack 0x28#8, ack 0x10#8, ack 0x40#8, .done 0x50#8 0x77#8])) =
    some (0x0600#16, [.start false 0x08#8, .write .addrW 0xD0#8 0x18#8, .write .data 0x3F#8 0x28#8,
      .start true 0x10#8, .write .addrR 0xD1#8 0x40#8, .read 0x77#8 false 0x50#8, .stop true], [0x06#8],
      0x77#8) := by decide

/-- V5 row 4 and P5: where the run is stuck. -/
theorem test_readreg_stall :
    (after (exec (.readreg 0x3F#8) (withAnswers [ack 0x08#8, ack 0x18#8, .stall]))).map
      (fun s => (s.fseq, s.fstep, s.inflight, s.data, s.done)) =
    some (.readreg, 3, some (.write 0x3F#8), 0x3F#8, false) := by decide

/-- V5 row 4 and P5: what the bus and the sink have seen. -/
theorem test_readreg_stall_histories :
    (after (exec (.readreg 0x3F#8) (withAnswers [ack 0x08#8, ack 0x18#8, .stall]))).map
      (fun s => (s.phase, s.status, s.bus, s.sink, s.ferr)) =
    some (.mt, .code 0x18#8, [.start false 0x08#8, .write .addrW 0xD0#8 0x18#8], [], .ok) := by decide

/-- V5 row 5: the host left a session open. -/
theorem test_readreg_open_session :
    report (exec (.readreg 0x3F#8) (inPhase .addr [ack 0x10#8])) =
    some (0x0100#16, [.start true 0x10#8, .stop true], [0x01#8], 0x11#8) := by decide

/-- V5 row 9: the expected values come from Cfg. -/
theorem test_readreg_other_cfg :
    (after (exec (.readreg 0x3F#8)
      { withAnswers [ack 0x08#8, ack 0x18#8, ack 0x28#8, ack 0x10#8, ack 0x40#8, .done 0x58#8 0x12#8] with
        cfg := { Cfg.default with stRxDataNack := 0x48#8 } })).map (·.rsp) = some 0x0600#16 := by decide

/-- R111: a framer that waited at step 6 goes on from there. -/
theorem test_readreg_resumed :
    (after (step
      { withAnswers [.done 0x58#8 0x9C#8] with
        fseq := .readreg, fstep := 6, inflight := some (.read false), phase := .mr, status := .code 0x40#8 })).map
      (fun s => (s.rsp, s.fbyte, s.fseq, s.fstep, s.bus)) =
    some (0x009C#16, 0x9C#8, .none, 0, [.read 0x9C#8 false 0x58#8, .stop true]) := by decide

/-! ### Step, register view, polling loop -/

/-- R40: a write of CMD issues the command. -/
theorem test_step_runs_command_word :
    seen (step ({ withAnswers [ack 0x08#8] with data := 0x11#8 }.withFetchWord 16 0x0100)) =
    some (0x0800#16, .addr, .code 0x08#8, 0x11#8, [.start false 0x08#8]) := by decide

/-- U8. -/
theorem test_step_refuses_reserved_word :
    refusal? (step (State.reset.withFetchWord 16 0x0001)) = some (.reservedWord 0x0001#16) := by decide

/-- U7: a second writer of CMD while BUSY = 1. -/
theorem test_bench_write_refused :
    refusal? (step { inPhase .addr [.stall] with
      inflight := some .start, requests := [⟨.bench, .write 0 0x0500#16⟩] }) = some .busy := by decide

/-- U9. -/
theorem test_register_refusals :
    (refusal? (serveRead 0 State.reset), refusal? (serveWrite 5 0#16 State.reset),
      refusal? (serveRead 6 State.reset)) =
    (some .readOfCmd, some (.readOnlyRegister 5), some (.noSuchRegister 6)) := by decide

/-- R41, the flags of P5's stuck state: FSEQ = 2, PHASE = 2, BUSY = 1, SESSION = 1, DONE = 0. -/
theorem test_flags_stuck : flagsByte { State.reset with
    phase := .mt, fseq := .readreg, fstep := 3, inflight := some (.write 0x3F#8) } = 0b10010110#8 := by decide

/-- V6: RESULT after a step-2 failure, FLAGS with DONE alone. -/
theorem test_register_view_after_failure :
    (after (exec (.readreg 0x3F#8) (withAnswers [ack 0x08#8, ack 0x20#8]))).map
      (fun s => (resultWord s, flagsByte s)) = some (0x0200#16, 0x01#8) := by decide

/-- R132, V7 row 1: a failed wake-up, one error byte, HALT. -/
theorem test_poll_wakeup_failed :
    (after (pollStep { PollHost.boot with pc := .startup } (withAnswers [ack 0x08#8, ack 0x20#8]))).map
      (fun s => (s.poll, s.sink)) =
    some (some { PollHost.boot with pc := .halt }, [0x02#8]) := by decide

/-- R134, S5: a good high byte. -/
theorem test_poll_read_high :
    (after (pollStep { PollHost.boot with pc := .readHigh } (withAnswers
      [ack 0x08#8, ack 0x18#8, ack 0x28#8, ack 0x10#8, ack 0x40#8, .done 0x58#8 0x12#8]))).map (·.poll) =
    some (some { PollHost.boot with pc := .readLow, high := 0x12#8 }) := by decide

/-- R138: ERROR sends a newline and stays. -/
theorem test_poll_error :
    (after (step { State.reset with poll := some { PollHost.boot with pc := .error } })).map
      (fun s => (s.poll, s.sink, s.bus)) =
    some (some { PollHost.boot with pc := .error }, [0x0A#8], []) := by decide

end Sys2Proof.Tests
end

