-- ==== Sys2Proof/Tests/Witnesses.lean ====
section
/-! SUPPORT. For each statement that has hypotheses, a concrete state and operands that meet them together,
one conjunct for each clause. -/

namespace Sys2Proof.Tests

open Sys2Proof.Machine

/-- The answers of a nominal WAKEUP and of a nominal READREG that delivers `b` (S1, S3). -/
def goodWakeup : List BusAnswer := [ack 0x08#8, ack 0x18#8, ack 0x28#8, ack 0x28#8]
def goodRead (b : Byte) : List BusAnswer :=
  [ack 0x08#8, ack 0x18#8, ack 0x28#8, ack 0x10#8, ack 0x40#8, .done 0x58#8 b]

/-- A WRITE stalled on the bus, with the history that leads there (V3 row 33). -/
def stalledWrite (requests : List Request) : State :=
  { State.reset with
    phase := .addr
    status := .code 0x08#8
    data := 0xD0#8
    inflight := some (.write 0xD0#8)
    trace := [.bus (.start false 0x08#8)]
    env := [.stall]
    requests := requests }

/-- A block that has nothing in flight, with accesses to come. -/
def resting (requests : List Request) : State := { State.reset with requests := requests }

/-- The polling loop in the state `pc` over a block in reset with the answers to come. -/
def polling (pc : PollState) (env : List BusAnswer) : State :=
  { withAnswers env with poll := some { PollHost.boot with pc := pc } }

theorem witness_StepRunsTheDecodedCommand :
    ∃ s : State, s.busy = false ∧ s.requests = [⟨.host, .write 0 0x113F#16⟩] ∧
      decode 0x113F#16 = .ok (.readreg 0x3F#8) :=
  ⟨{ State.reset with requests := [⟨.host, .write 0 0x113F#16⟩] }, by decide⟩

theorem witness_PlacedWordRunsNext : State.reset.busy = false := by decide

theorem witness_HostRequestWaitsWhileBusy :
    (stalledWrite [⟨.host, .idle⟩]).busy = true ∧
      (stalledWrite [⟨.host, .idle⟩]).requests = [⟨.host, .idle⟩] := by decide

theorem witness_BusyRefusesEveryCommand : (stalledWrite []).busy = true := by decide

theorem witness_StartCompletes :
    (inPhase .idle [ack 0x08#8]).busy = false ∧
      (inPhase .idle [ack 0x08#8]).env = [.done 0x08#8 0x00#8] := by decide

theorem witness_WriteCompletes :
    ((inPhase .addr [ack 0x18#8]).busy = false ∧ (inPhase .addr [ack 0x18#8]).env = [.done 0x18#8 0x00#8] ∧
      (inPhase .addr [ack 0x18#8]).phase = .addr) ∧
    ((inPhase .mt [ack 0x28#8]).busy = false ∧ (inPhase .mt [ack 0x28#8]).env = [.done 0x28#8 0x00#8] ∧
      (inPhase .mt [ack 0x28#8]).phase = .mt) := by decide

theorem witness_ReadAckCompletes :
    (inPhase .mr [.done 0x50#8 0x12#8]).busy = false ∧ (inPhase .mr [.done 0x50#8 0x12#8]).phase = .mr ∧
      (inPhase .mr [.done 0x50#8 0x12#8]).env = [.done 0x50#8 0x12#8] := by decide

theorem witness_ReadNackCompletes :
    (inPhase .mr [.done 0x58#8 0x00#8]).busy = false ∧ (inPhase .mr [.done 0x58#8 0x00#8]).phase = .mr ∧
      (inPhase .mr [.done 0x58#8 0x00#8]).env = [.done 0x58#8 0x00#8] := by decide

theorem witness_StopCompletes : (inPhase .mrEnd []).busy = false := by decide

theorem witness_StatusCompletes :
    ((inPhase .mt []).busy = false ∧ (inPhase .mt []).status = .code 0x28#8) ∧
    (State.reset.busy = false ∧ State.reset.status = .unspecified) := by decide

theorem witness_PhaseTransitionsFollowTable :
    ∀ p ∈ [Phase.idle, .addr, .mt, .mr, .mrEnd],
      (inPhase p [ack 0x08#8]).busy = false ∧ (inPhase p [ack 0x08#8]).cfg.valid = true ∧
      (inPhase p [ack 0x08#8]).env = [.done 0x08#8 0x00#8] ∧ (inPhase p [ack 0x08#8]).phase = p ∧
      direction 0xD0#8 = Cfg.default.dirWrite ∧ direction 0xD1#8 = Cfg.default.dirRead := by decide

theorem witness_CommandsRunExactlyWhereAdmitted :
    ∀ p ∈ [Phase.idle, .addr, .mt, .mr, .mrEnd],
      (inPhase p []).busy = false ∧ (inPhase p []).cfg.valid = true ∧ (inPhase p []).phase = p := by decide

/-- The stalled WRITE meets the invariant, with every list of requests, and so with that of each clause. -/
theorem witness_StalledBlockIsHeldForEver (requests : List Request) :
    (stalledWrite requests).Inv ∧ (stalledWrite requests).inflight = some (.write 0xD0#8) ∧
      (stalledWrite requests).env = [.stall] ∧ (stalledWrite requests).requests = requests := by
  refine ⟨⟨?_, ?_, ?_, ?_, ?_, ?_, ?_⟩, rfl, rfl, rfl⟩
  · simp [stalledWrite, State.reset]
  · intro _; rfl
  · intro op h; cases h; rfl
  · intro h; exact absurd rfl h
  · intro h; exact absurd rfl h
  · rfl
  · simp [stalledWrite]

theorem witness_WaitingDoesNotChangeTheResult :
    (∃ u, exec .start (inPhase .idle [.wait]) = .next u ∧ u.busy = true) ∧
    (∃ u, exec (.readreg 0x3F#8) (withAnswers [ack 0x08#8, ack 0x18#8, .wait, ack 0x28#8]) = .next u ∧
      u.busy = true) :=
  ⟨⟨_, rfl, by decide⟩, ⟨_, rfl, by decide⟩⟩

theorem witness_BlockingPrimitiveFrame :
    (∃ t, exec .start (inPhase .idle [ack 0x08#8]) = .next t ∧ t.busy = false) ∧
    (∃ t, exec (.write 0xD0#8) (inPhase .addr [.stall]) = .next t ∧ t.busy = true) ∧
    (∃ t, exec .readAck (inPhase .mr [.done 0x50#8 0x12#8]) = .next t ∧ t.busy = false) ∧
    (∃ t, exec .readNack (inPhase .mr []) = .next t ∧ t.busy = true) :=
  ⟨⟨_, rfl, by decide⟩, ⟨_, rfl, by decide⟩, ⟨_, rfl, by decide⟩, ⟨_, rfl, by decide⟩⟩

theorem witness_WakeupCompletes :
    (withAnswers goodWakeup).busy = false ∧ (withAnswers goodWakeup).cfg.valid = true ∧
      (withAnswers goodWakeup).env = [.done Cfg.default.stStart 0#8, .done Cfg.default.stTxAddrAck 0#8,
        .done Cfg.default.stTxDataAck 0#8, .done Cfg.default.stTxDataAck 0#8] := by decide

theorem witness_ReadregCompletes :
    (withAnswers (goodRead 0xA5#8)).busy = false ∧ (withAnswers (goodRead 0xA5#8)).cfg.valid = true ∧
      (withAnswers (goodRead 0xA5#8)).env = [.done Cfg.default.stStart 0#8, .done Cfg.default.stTxAddrAck 0#8,
        .done Cfg.default.stTxDataAck 0#8, .done Cfg.default.stRepStart 0#8,
        .done Cfg.default.stRxAddrAck 0#8, .done Cfg.default.stRxDataNack 0xA5#8] := by decide

/-- The four clauses of WakeupFailureExit: the status 0x38 is not the one expected at any step. -/
theorem witness_WakeupFailureExit :
    ∀ k ∈ [0, 1, 2, 3],
      (withAnswers (goodWakeup.take k ++ [ack 0x38#8])).busy = false ∧
      (withAnswers (goodWakeup.take k ++ [ack 0x38#8])).cfg.valid = true ∧
      (0x38#8) ∉ Cfg.default.namedStatuses := by decide

/-- The six clauses of ReadregFailureExit. -/
theorem witness_ReadregFailureExit :
    ∀ k ∈ [0, 1, 2, 3, 4, 5],
      (withAnswers ((goodRead 0x77#8).take k ++ [.done 0x38#8 0x77#8])).busy = false ∧
      (withAnswers ((goodRead 0x77#8).take k ++ [.done 0x38#8 0x77#8])).cfg.valid = true ∧
      (0x38#8) ∉ Cfg.default.namedStatuses := by decide

/-- A framer command that responds well, one that responds with a failure, one that is held: the
hypotheses of ExactlyOneStopPerFramerCommand, FramerReportCanBeReliedOn, FailedReadReturnsFailByte,
ErrorByteFollowsTheStop, FramerIssuesAnInitialPartOfItsTable, HeldFramerState and FramerFrame. -/
theorem witness_framer_outcomes :
    (∃ t, exec .wakeup (withAnswers goodWakeup) = .next t ∧ t.busy = false ∧ t.ferr = .ok) ∧
    (∃ t, exec (.readreg 0x3F#8) (withAnswers (goodRead 0x12#8)) = .next t ∧ t.busy = false ∧ t.ferr = .ok) ∧
    (∃ t, exec .wakeup (withAnswers [ack 0x38#8]) = .next t ∧ t.busy = false ∧ t.ferr ≠ .ok) ∧
    (∃ t, exec (.readreg 0x3F#8) (withAnswers [ack 0x08#8, ack 0x20#8]) = .next t ∧ t.busy = false ∧
      t.ferr ≠ .ok) ∧
    (∃ t, exec .wakeup (withAnswers [ack 0x08#8, .stall]) = .next t ∧ t.busy = true) ∧
    (∃ t, exec (.readreg 0x3F#8) (withAnswers []) = .next t ∧ t.busy = true) ∧
    (withAnswers []).cfg.valid = true ∧ (withAnswers []).phase = .idle :=
  ⟨⟨_, rfl, by decide⟩, ⟨_, rfl, by decide⟩, ⟨_, rfl, by decide⟩, ⟨_, rfl, by decide⟩, ⟨_, rfl, by decide⟩,
    ⟨_, rfl, by decide⟩, by decide, rfl⟩

theorem witness_OpenSessionFailsTheFramer :
    (inPhase .addr [ack 0x10#8]).busy = false ∧ (inPhase .addr [ack 0x10#8]).cfg.valid = true ∧
      (inPhase .addr [ack 0x10#8]).phase ≠ .idle ∧
      (inPhase .addr [ack 0x10#8]).env = [.done Cfg.default.stRepStart 0#8] := by decide

theorem witness_FramerExpectsNominalStatuses : Cfg.default.valid = true := by decide

theorem witness_FramerEqualsHostIssuedPrimitives :
    (withAnswers goodWakeup).busy = false ∧ (withAnswers goodWakeup).cfg.valid = true ∧
    (∃ t, exec .wakeup (withAnswers goodWakeup) = .next t ∧ t.busy = false) ∧
    (∃ t, exec (.readreg 0x3F#8) (withAnswers [ack 0x08#8, .stall]) = .next t ∧ t.busy = true) :=
  ⟨by decide, by decide, ⟨_, rfl, by decide⟩, ⟨_, rfl, by decide⟩⟩

theorem witness_RedundantStopIsHarmless :
    (withAnswers (goodRead 0x5A#8)).busy = false ∧ (withAnswers (goodRead 0x5A#8)).cfg.valid = true ∧
      (withAnswers (goodRead 0x5A#8)).phase = .idle ∧
      (withAnswers (goodRead 0x5A#8)).status = .unspecified := by decide

theorem witness_StartAfterStopIsAFirstStart :
    (inPhase .mt [ack 0x08#8]).busy = false ∧
      (inPhase .mt [ack 0x08#8]).env = [.done 0x08#8 0x00#8] := by decide

theorem witness_StatusReadsAgree :
    (inPhase .mr []).busy = false ∧ (inPhase .mr []).status = .code 0x28#8 := by decide

/-- A step from a state that meets the invariant, and a held state that meets it: StepKeepsTheInvariant,
BusyBlockNeverFaultsOrRefuses, StepKeepsTheConfiguration, HistoryOnlyGrows. -/
theorem witness_StepKeepsTheInvariant :
    (stalledWrite []).Inv ∧ (stalledWrite []).busy = true ∧ (stalledWrite []).cfg.valid = true ∧
      step (stalledWrite []) = .next (stalledWrite []) :=
  ⟨(witness_StalledBlockIsHeldForEver []).1, by decide, by decide, rfl⟩

theorem witness_StepKeepsStatusesInStatusSpace :
    (withAnswers [ack 0xF8#8]).StatusSafe ∧
    ∃ t, step ((withAnswers [ack 0xF8#8]).withFetchWord 16 0x0100) = .next t ∧ t.status = .code 0xF8#8 := by
  refine ⟨⟨trivial, ?_, ?_⟩, _, rfl, by decide⟩
  · intro a h
    simp only [withAnswers, List.mem_singleton] at h
    subst h
    show (0xF8#8) ∈ Cfg.default.statusSpace
    decide
  · intro e h; cases h

theorem witness_RspHoldsTheLastResponse :
    ∃ t, step ((withAnswers [ack 0x08#8]).withFetchWord 16 0x0100) = .next t ∧
      (withAnswers [ack 0x08#8]).rsp = (withAnswers [ack 0x08#8]).responses.getLastD 0x0000#16 ∧
      t.rsp = 0x0800#16 :=
  ⟨_, rfl, by decide, by decide⟩

/-- One admitted phase for each kind of command, with six completing answers. -/
theorem witness_CommandsRespondOnABusThatCompletes :
    (inPhase .mr (goodRead 0x01#8)).busy = false ∧ (inPhase .mr (goodRead 0x01#8)).cfg.valid = true ∧
      commandRefusal .readAck (inPhase .mr (goodRead 0x01#8)).phase = none ∧
      commandRefusal (.readreg 0x3F#8) (inPhase .mr (goodRead 0x01#8)).phase = none ∧
      commandRefusal (.write 0xD0#8) (inPhase .addr (goodRead 0x01#8)).phase = none ∧
      completesNext 6 (inPhase .mr (goodRead 0x01#8)) := by
  refine ⟨by decide, by decide, by decide, by decide, by decide, ?_⟩
  unfold completesNext
  decide

/-- A test bench's reset while a primitive is stalled, and a host's where BUSY = 0. -/
theorem witness_RestartFromEveryState :
    ((stalledWrite [⟨.bench, .reset⟩]).requests = [⟨.bench, .reset⟩] ∧
      (stalledWrite [⟨.bench, .reset⟩]).busy = true) ∧
    ((resting [⟨.host, .reset⟩]).requests = [⟨.host, .reset⟩] ∧
      (resting [⟨.host, .reset⟩]).busy = false) := by decide

/-- A host's read of FLAGS where BUSY = 0 and where BUSY = 1. -/
theorem witness_FlagsFields :
    ((resting [⟨.host, .read 4⟩]).requests = [⟨.host, .read 4⟩] ∧
      (resting [⟨.host, .read 4⟩]).busy = false) ∧
    ((stalledWrite [⟨.host, .read 4⟩]).requests = [⟨.host, .read 4⟩] ∧
      (stalledWrite [⟨.host, .read 4⟩]).busy = true) := by decide

theorem witness_RegisterView :
    (inPhase .mt []).status = .code 0x28#8 ∧ State.reset.status = .unspecified := by decide

theorem witness_RegisterReadsHaveNoSideEffect :
    ∀ off ∈ [1, 3, 4, 5], (after (serveRead off (inPhase .mt []))).isSome = true := by decide

theorem witness_PollStartup :
    (polling .startup goodWakeup).busy = false ∧ (polling .startup goodWakeup).requests = [] ∧
    (∃ u, exec .wakeup { polling .startup goodWakeup with
      poll := some { PollHost.boot with pc := .startup, waiting := true } } = .next u ∧
      u.busy = false ∧ responseCode u.rsp = u.cfg.errOk) ∧
    (∃ u, exec .wakeup { polling .startup [ack 0x38#8] with
      poll := some { PollHost.boot with pc := .startup, waiting := true } } = .next u ∧
      u.busy = false ∧ responseCode u.rsp ≠ u.cfg.errOk) ∧
    (∃ u, exec .wakeup { polling .startup [.stall] with
      poll := some { PollHost.boot with pc := .startup, waiting := true } } = .next u ∧ u.busy = true) :=
  ⟨by decide, rfl, ⟨_, rfl, by decide⟩, ⟨_, rfl, by decide⟩, ⟨_, rfl, by decide⟩⟩

theorem witness_PollReads :
    (polling .readHigh (goodRead 0x12#8)).busy = false ∧ (polling .readLow [ack 0x38#8]).busy = false ∧
    (∃ u, exec (.readreg Cfg.default.regAxisH) { polling .readHigh (goodRead 0x12#8) with
      poll := some { PollHost.boot with pc := .readHigh, waiting := true } } = .next u ∧ u.busy = false) ∧
    (∃ u, exec (.readreg Cfg.default.regAxisL) { polling .readLow [ack 0x38#8] with
      poll := some { PollHost.boot with pc := .readLow, waiting := true } } = .next u ∧ u.busy = false) ∧
    (∃ u, exec (.readreg Cfg.default.regAxisH) { polling .readHigh [.wait] with
      poll := some { PollHost.boot with pc := .readHigh, waiting := true } } = .next u ∧ u.busy = true) ∧
    (∃ u, exec (.readreg Cfg.default.regAxisL) { polling .readLow [ack 0x08#8, .wait] with
      poll := some { PollHost.boot with pc := .readLow, waiting := true } } = .next u ∧ u.busy = true) :=
  ⟨by decide, by decide, ⟨_, rfl, by decide⟩, ⟨_, rfl, by decide⟩, ⟨_, rfl, by decide⟩, ⟨_, rfl, by decide⟩⟩

/-- The loop in the state `pc`, held in the first step of its command `q`, with the answers to come. -/
def heldPolling (pc : PollState) (q : FSeq) (env : List BusAnswer) : State :=
  { polling pc env with
    inflight := some .start
    fseq := q
    fstep := 1
    fbyte := Cfg.default.failByte
    poll := some { PollHost.boot with pc := pc, waiting := true } }

/-- The command stays held, responds well, or fails, in each of the three states that issue one. -/
theorem witness_PollTakesTheLateResponse :
    (∃ u, resume (heldPolling .startup .wakeup [.wait]) = .next u ∧ u.busy = true) ∧
    (∃ u, resume (heldPolling .startup .wakeup goodWakeup) = .next u ∧ u.busy = false ∧
      responseCode u.rsp = u.cfg.errOk) ∧
    (∃ u, resume (heldPolling .startup .wakeup [ack 0x38#8]) = .next u ∧ u.busy = false ∧
      responseCode u.rsp ≠ u.cfg.errOk) ∧
    (∃ u, resume (heldPolling .readHigh .readreg (goodRead 0x12#8)) = .next u ∧ u.busy = false) ∧
    (∃ u, resume (heldPolling .readLow .readreg [ack 0x38#8]) = .next u ∧ u.busy = false) ∧
    (heldPolling .readLow .readreg []).busy = true ∧ (heldPolling .readLow .readreg []).requests = [] :=
  ⟨⟨_, rfl, by decide⟩, ⟨_, rfl, by decide⟩, ⟨_, rfl, by decide⟩, ⟨_, rfl, by decide⟩, ⟨_, rfl, by decide⟩,
    by decide, rfl⟩

theorem witness_PollWaitingDoesNotChangeTheResult :
    (polling .readHigh [ack 0x08#8, .wait]).busy = false ∧
    (polling .readHigh [ack 0x08#8, .wait]).requests = [] ∧
    ∃ u, step (polling .readHigh [ack 0x08#8, .wait]) = .next u ∧ u.busy = true :=
  ⟨by decide, rfl, ⟨_, rfl, by decide⟩⟩

/-- Each clause of PollSends, PollErrorIsAbsorbing and PollAlwaysHasASuccessor, and the clauses `boot` and
`halt` of PollStartup, have their state. -/
theorem witness_PollSends :
    ∀ pc ∈ [PollState.boot, .halt, .wait, .sendHigh, .sendLow, .sendNewline, .error],
      (polling pc []).busy = false ∧ (polling pc []).requests = [] ∧ (polling pc []).cfg.valid = true ∧
      (polling pc []).poll = some { PollHost.boot with pc := pc } := by decide

theorem witness_PollGoodCycle :
    (polling .wait (goodRead 0x12#8 ++ goodRead 0x34#8)).busy = false ∧
    (polling .wait (goodRead 0x12#8 ++ goodRead 0x34#8)).requests = [] ∧
    (polling .wait (goodRead 0x12#8 ++ goodRead 0x34#8)).cfg.valid = true ∧
    (polling .wait (goodRead 0x12#8 ++ goodRead 0x34#8)).env =
      [.done Cfg.default.stStart 0#8, .done Cfg.default.stTxAddrAck 0#8, .done Cfg.default.stTxDataAck 0#8,
       .done Cfg.default.stRepStart 0#8, .done Cfg.default.stRxAddrAck 0#8,
       .done Cfg.default.stRxDataNack 0x12#8,
       .done Cfg.default.stStart 0#8, .done Cfg.default.stTxAddrAck 0#8, .done Cfg.default.stTxDataAck 0#8,
       .done Cfg.default.stRepStart 0#8, .done Cfg.default.stRxAddrAck 0#8,
       .done Cfg.default.stRxDataNack 0x34#8] := by decide

end Sys2Proof.Tests
end

section
/-! A property of the states a result answers, and the properties that every step keeps: the step's case
analysis is done once, in `KeptByMoves.step`. -/

namespace Sys2Proof.Machine

variable {s : State} {P Q : State → Prop}

/-! ### A property of the state answered -/

/-- Every next state the result answers has the property `Q`; a fault or a refusal answers none. -/
def Ensures (Q : State → Prop) (o : Result) : Prop := ∀ t, o = .next t → Q t

@[simp] theorem ensures_next : Ensures Q (.next s) ↔ Q s := by simp [Ensures]

@[simp] theorem ensures_fault (r : Fault) : Ensures Q (.fault r) := by simp [Ensures]

@[simp] theorem ensures_refused (r : Refusal) : Ensures Q (.refused r) := by simp [Ensures]

theorem Ensures.thenNext {o : Result} {f : State → State} (h : Ensures P o) (hf : ∀ s, P s → Q (f s)) :
    Ensures Q (thenNext o f) := by
  cases o with
  | next s => simpa [Machine.thenNext] using hf s (h s rfl)
  | fault r => exact ensures_fault r
  | refused r => exact ensures_refused r

theorem Ensures.whenReady {k : Result} (h : s.busy = false → Ensures Q k) : Ensures Q (whenReady s k) := by
  unfold Machine.whenReady
  split
  · exact ensures_refused _
  · exact h (by simpa using ‹¬ s.busy = true›)

/-! ### What every step keeps -/

/-- Each move a step is made of keeps `P`: the command in progress goes on, a command is issued, the
restart, a free value read, an entry that is neither a bus event nor a response put in the history, a move
of the polling loop, a request taken from the queue. -/
structure KeptByMoves (P : State → Prop) : Prop where
  resume : ∀ s, P s → s.busy = true → Ensures P (resume s)
  exec : ∀ i s, P s → Ensures P (exec i s)
  restart : ∀ s, P s → P (restart s)
  draw : ∀ s, P s → P { s with draws := s.draws + 1 }
  note : ∀ e s, e.busEvent? = none → e.response? = none → P s → P (record e s)
  loop : ∀ q s, P s → P { s with poll := q }
  dequeue : ∀ rs s, P s → P { s with requests := rs }

namespace KeptByMoves

theorem sinkSend (h : KeptByMoves P) (b : Byte) (hs : P s) : P (sinkSend b s) :=
  h.note (.sink b) s rfl rfl hs

theorem goto (h : KeptByMoves P) (pc : PollState) (p : PollHost) (hs : P s) : P (goto pc p s) :=
  h.loop (some { p with pc := pc }) s hs

theorem readStatus (h : KeptByMoves P) (hs : P s) : P (readStatus s).2 := by
  cases hst : s.status with
  | code st => simpa [readStatus_code hst] using hs
  | unspecified => simpa [readStatus_unspecified hst] using h.draw s hs

theorem pollTake (h : KeptByMoves P) (hs : P s) : P (pollTake s) := by
  obtain ⟨q, tr, ht, rfl | ⟨b, rfl⟩⟩ := pollTake_spec s
  · rw [ht, List.append_nil]
    exact h.loop q s hs
  · rw [ht]
    exact h.sinkSend b (h.loop q s hs)

theorem pollIssue (h : KeptByMoves P) (i : Instr) (p : PollHost) (hs : P s) :
    Ensures P (pollIssue i p s) :=
  (h.exec i _ (h.loop _ s hs)).thenNext fun _ => h.pollTake

theorem pollStep (h : KeptByMoves P) (p : PollHost) (hs : P s) : Ensures P (pollStep p s) := by
  unfold Machine.pollStep
  split
  case h_1 => exact ensures_next.2 (h.goto _ p (h.note .sinkInit s rfl rfl hs))
  case h_2 => exact h.pollIssue _ p hs
  case h_3 => exact ensures_next.2 (h.goto _ _ hs)
  case h_4 => exact h.pollIssue _ p hs
  case h_5 => exact h.pollIssue _ p hs
  case h_6 => exact ensures_next.2 (h.goto _ p (h.sinkSend _ hs))
  case h_7 => exact ensures_next.2 (h.goto _ p (h.sinkSend _ hs))
  case h_8 => exact ensures_next.2 (h.goto _ p (h.sinkSend _ hs))
  case h_9 => exact ensures_next.2 (h.sinkSend _ hs)
  case h_10 => exact ensures_next.2 hs

theorem advance (h : KeptByMoves P) (hs : P s) : Ensures P (advance s) := by
  cases hb : s.busy with
  | true =>
    rw [advance_busy hb]
    exact (h.resume s hs hb).thenNext fun _ => h.pollTake
  | false =>
    cases hp : s.poll with
    | none => simpa [Machine.advance, hb, hp] using hs
    | some p => simpa [Machine.advance, hb, hp] using h.pollStep p hs

theorem serveRead (h : KeptByMoves P) (off : Nat) (hs : P s) : Ensures P (serveRead off s) := by
  unfold Machine.serveRead readInterface
  split
  case h_1 v t hv =>
    have ht : P t := by
      split at hv <;> cases hv
      case h_3 => exact h.readStatus hs
      all_goals exact hs
    exact ensures_next.2 (h.note (.regRead off v) t rfl rfl ht)
  case h_2 => exact ensures_fault _
  case h_3 => exact ensures_refused _

theorem serveWrite (h : KeptByMoves P) (off : Nat) (v : Word16) (hs : P s) :
    Ensures P (serveWrite off v s) := by
  unfold Machine.serveWrite
  split
  case h_1 =>
    unfold issueWord
    split
    · exact h.exec _ s hs
    · exact ensures_refused _
  all_goals exact ensures_refused _

theorem serve (h : KeptByMoves P) (a : Access) (hs : P s) : Ensures P (serve a s) := by
  cases a with
  | write off v => exact h.serveWrite off v hs
  | read off => exact h.serveRead off hs
  | reset => exact ensures_next.2 (h.restart s hs)
  | idle => exact h.advance hs

theorem step (h : KeptByMoves P) (hs : P s) : Ensures P (step s) := by
  obtain hst | ⟨r, rest, -, -, hst⟩ := step_cases s
  · exact hst ▸ h.advance hs
  · exact hst ▸ h.serve r.access (h.dequeue rest s hs)

end KeptByMoves

end Sys2Proof.Machine
end

section
/-! Statuses within StatusSpace (R12, R26, R76): the operations that keep `State.StatusSafe`, and the two
obligations about it. -/

namespace Sys2Proof.Machine

variable {s t : State}

theorem record_bus_of_not_bus {e : Obs} (h : e.busEvent? = none) (s : State) : (record e s).bus = s.bus := by
  simp [State.bus, h]

@[simp] theorem eventStatus_eventOf (c : Cfg) (p : Phase) (st b : Byte) (op : Prim) :
    eventStatus? (eventOf c p st b op) = some st := by
  cases op <;> rfl

namespace State.StatusSafe

/-- The invariant of a later state: its register holds a member, and one event with a member or no status has
been added to the history. -/
theorem of_bus_append {e : BusEvent} (hs : s.StatusSafe) (cfg : t.cfg = s.cfg)
    (register : statusInSpace s.cfg t.status) (env : t.env = s.env) (bus : t.bus = s.bus ++ [e])
    (event : ∀ st, eventStatus? e = some st → st ∈ s.cfg.statusSpace) : t.StatusSafe where
  register := cfg ▸ register
  answers a ha := cfg ▸ hs.answers a (env ▸ ha)
  history x hx := by
    rw [cfg]
    rw [bus, List.mem_append, List.mem_singleton] at hx
    obtain hx | rfl := hx
    · exact hs.history x hx
    · exact event

/-- The invariant speaks of the configuration, the register, the coming answers and the bus history only. -/
theorem of_eq (hs : s.StatusSafe) (cfg : t.cfg = s.cfg) (status : t.status = s.status)
    (env : t.env = s.env) (bus : t.bus = s.bus) : t.StatusSafe where
  register := by simpa [cfg, status] using hs.register
  answers a ha := cfg ▸ hs.answers a (env ▸ ha)
  history := by simpa [cfg, bus] using hs.history

/-- Answers used up leave the invariant as it was. -/
theorem of_env_subset {env : List BusAnswer} (hs : s.StatusSafe) (h : env ⊆ s.env) :
    { s with env := env }.StatusSafe where
  register := hs.register
  answers a ha := hs.answers a (h ha)
  history := hs.history

/-! ### Updates of the state -/

theorem record {e : Obs} (hs : s.StatusSafe) (he : e.busEvent? = none) : (record e s).StatusSafe :=
  hs.of_eq rfl rfl rfl (record_bus_of_not_bus he s)

theorem deliver (w : Word16) (hs : s.StatusSafe) : (deliver w s).StatusSafe :=
  hs.of_eq rfl rfl rfl (deliver_bus s w)

theorem issue (op : Prim) (hs : s.StatusSafe) : (issue op s).StatusSafe :=
  hs.of_eq rfl rfl rfl rfl

theorem accept (q : FSeq) (hs : s.StatusSafe) : (accept q s).StatusSafe :=
  hs.of_eq rfl rfl rfl rfl

theorem passed (r : FramerRow) (hs : s.StatusSafe) : (passed r s).StatusSafe :=
  hs.of_eq rfl rfl rfl rfl

theorem mismatch (c : ErrorCode) (hs : s.StatusSafe) : (mismatch c s).StatusSafe :=
  hs.of_eq rfl rfl rfl rfl

theorem holdState (hs : s.StatusSafe) : (holdState s).StatusSafe := by
  obtain ⟨env, h, henv⟩ := holdState_eq s
  rw [h]
  obtain rfl | henv := henv
  · exact hs
  · exact hs.of_env_subset (henv ▸ List.subset_cons_self _ _)

/-- The status a completion latches and logs is the one the bus answered (R12). -/
theorem complete {st b : Byte} {rest : List BusAnswer} (op : Prim) (hs : s.StatusSafe)
    (he : s.env = .done st b :: rest) : (complete op st b { s with env := rest }).StatusSafe := by
  have hst : st ∈ s.cfg.statusSpace := hs.answers (.done st b) (by simp [he])
  have hrest : { s with env := rest }.StatusSafe := hs.of_env_subset (he ▸ List.subset_cons_self _ _)
  refine hrest.of_bus_append rfl hst rfl (complete_bus _ op st b) fun x hx => ?_
  rw [eventStatus_eventOf, Option.some.injEq] at hx
  exact hx ▸ hst

theorem stopBus (hs : s.StatusSafe) : (stopBus s).StatusSafe :=
  hs.of_bus_append rfl trivial rfl (stopBus_bus s) nofun

theorem reportFailure (hs : s.StatusSafe) : (reportFailure s).StatusSafe := by
  unfold Machine.reportFailure
  split
  · exact hs
  · exact hs.record rfl

theorem finish (hs : s.StatusSafe) : (finish s).StatusSafe :=
  (hs.stopBus.reportFailure.deliver _).of_eq rfl rfl rfl rfl

theorem respondStatus (byte : Byte) (hs : s.StatusSafe) : (respondStatus byte s).StatusSafe := by
  unfold Machine.respondStatus
  refine StatusSafe.deliver _ ?_
  cases hst : s.status with
  | code st => simpa [readStatus_code hst] using hs
  | unspecified =>
    rw [readStatus_unspecified hst]
    exact hs.of_eq rfl rfl rfl rfl

theorem reset : State.reset.StatusSafe where
  register := trivial
  answers := nofun
  history := nofun

theorem restart (hs : s.StatusSafe) : (restart s).StatusSafe where
  register := trivial
  answers := hs.answers
  history := nofun

/-! ### Commands -/

theorem awaitForHost (op : Prim) (hs : s.StatusSafe) : Ensures StatusSafe (awaitForHost op s) := by
  unfold Machine.awaitForHost
  obtain ⟨st, b, rest, he, ha⟩ | ⟨-, ha⟩ := askBus_cases op s
  · simpa [ha] using (hs.complete op he).respondStatus _
  · simpa [ha] using hs.holdState

theorem hostPrimitive (op : Prim) (hs : s.StatusSafe) : Ensures StatusSafe (hostPrimitive op s) := by
  refine Ensures.whenReady fun _ => ?_
  cases refusalOf op s.phase with
  | some r => exact ensures_refused r
  | none => exact (hs.issue op).awaitForHost op

theorem runRows (rows : List FramerRow) (hs : s.StatusSafe) : Ensures StatusSafe (runRows rows s) := by
  intro t ht
  refine runRows_induction (P := fun _ u => u.StatusSafe) ?done ?held ?fail ?pass rows s t hs ht
  case done => exact fun u hu => hu.finish
  case held => exact fun r _ u hu _ _ => (hu.issue r.op).holdState
  case fail => exact fun r _ u _ _ _ hu _ he _ => (((hu.issue r.op).complete r.op he).mismatch r.err).finish
  case pass => exact fun r _ u _ _ hu _ he => ((hu.issue r.op).complete r.op he).passed r

theorem checkRow (r : FramerRow) (rs : List FramerRow) (hs : s.StatusSafe) :
    Ensures StatusSafe (checkRow r (Machine.runRows rs) (askBus r.op s)) := by
  obtain ⟨st, b, rest, he, ha⟩ | ⟨-, ha⟩ := askBus_cases r.op s
  · have hc := hs.complete r.op he
    by_cases hst : st = r.expected
    · simpa [ha, Machine.checkRow, hst] using (hst ▸ hc.passed r).runRows rs
    · simpa [ha, Machine.checkRow, hst] using (hc.mismatch r.err).finish
  · simpa [ha, Machine.checkRow] using hs.holdState

theorem resumeFramer (op : Prim) (hs : s.StatusSafe) : Ensures StatusSafe (resumeFramer op s) := by
  unfold Machine.resumeFramer
  split
  · exact ensures_fault _
  · split
    · next r rs _ hop => exact hop ▸ hs.checkRow r rs
    · exact ensures_fault _

theorem continueFramer (hs : s.StatusSafe) : Ensures StatusSafe (continueFramer s) := by
  unfold Machine.continueFramer
  split
  · exact ensures_fault _
  · exact hs.runRows _

theorem resume (hs : s.StatusSafe) : Ensures StatusSafe (resume s) := by
  unfold Machine.resume
  split
  · exact ensures_next.2 hs
  · exact hs.continueFramer
  · exact hs.awaitForHost _
  · exact hs.resumeFramer _

theorem exec (i : Instr) (hs : s.StatusSafe) : Ensures StatusSafe (exec i s) := by
  cases i with
  | start => exact hs.hostPrimitive .start
  | write v => exact hs.hostPrimitive (.write v)
  | readAck => exact hs.hostPrimitive (.read true)
  | readNack => exact hs.hostPrimitive (.read false)
  | stop => exact Ensures.whenReady fun _ => ensures_next.2 hs.stopBus
  | status => exact Ensures.whenReady fun _ => ensures_next.2 (hs.respondStatus _)
  | wakeup => exact Ensures.whenReady fun _ => (hs.accept .wakeup).runRows _
  | readreg r =>
    have hr : { s with freg := r }.StatusSafe := hs.of_eq rfl rfl rfl rfl
    exact Ensures.whenReady fun _ => (hr.accept .readreg).runRows _

/-! ### The step -/

theorem keptByMoves : KeptByMoves State.StatusSafe where
  resume _ hs _ := hs.resume
  exec i _ hs := hs.exec i
  restart _ hs := hs.restart
  draw _ hs := hs.of_eq rfl rfl rfl rfl
  note _ _ he _ hs := hs.record he
  loop _ _ hs := hs.of_eq rfl rfl rfl rfl
  dequeue _ _ hs := hs.of_eq rfl rfl rfl rfl

end State.StatusSafe

/-- Settles O40: the status register is unspecified and there are no answers and no events. -/
theorem resetStatusesLieInStatusSpace : Obligations.ResetStatusesLieInStatusSpace :=
  State.StatusSafe.reset

/-- Settles O41: every move a step is made of keeps the invariant; the only new status is the one a
completion takes from the bus. -/
theorem stepKeepsStatusesInStatusSpace : Obligations.StepKeepsStatusesInStatusSpace :=
  fun _ t hs ht => State.StatusSafe.keptByMoves.step hs t ht

end Sys2Proof.Machine
end

section
/-! The state invariant (R37): bus sessions replayed, a framer between two of its rows, and the operations
that lead from a state that meets `State.Inv` to one that meets it. -/

namespace Sys2Proof.Machine

variable {s t : State}

/-! ### The bus history replayed (R24, R31, R93) -/

theorem replay_concat (c : Cfg) (p : Phase) (es : List BusEvent) (e : BusEvent) :
    replay c p (es ++ [e]) = (replay c p es).bind fun q => replayEvent c q e := by
  induction es generalizing p with
  | nil => simp [replay]
  | cons x xs ih => simp [replay, ih, Option.bind_assoc]

/-- An admitted primitive logs an event that replays to the phase of rule R93. -/
theorem replayEvent_eventOf {op : Prim} {p : Phase} (h : refusalOf op p = none) (c : Cfg) (st b : Byte) :
    replayEvent c p (eventOf c p st b op) = some (nextPhase c op p) := by
  cases op with
  | start => simp [replayEvent, eventOf, nextPhase]
  | write v => simp [replayEvent, eventOf, h]
  | read ack => simp [replayEvent, eventOf, h]

@[simp] theorem refusalOf_start (p : Phase) : refusalOf .start p = none := rfl

/-- Where a byte may be written (R97). -/
@[simp] theorem refusalOf_write_eq_none {v : Byte} {p : Phase} :
    refusalOf (.write v) p = none ↔ p = .addr ∨ p = .mt := by
  cases p <;> simp [refusalOf]

/-- Where a byte may be read (R97). -/
@[simp] theorem refusalOf_read_eq_none {ack : Bool} {p : Phase} :
    refusalOf (.read ack) p = none ↔ p = .mr := by
  cases p <;> simp [refusalOf]

theorem nextPhase_write_addr (c : Cfg) (v : Byte) :
    nextPhase c (.write v) .addr = if direction v = c.dirRead then .mr else .mt := rfl

/-- A completed primitive leaves a session open (R93). -/
theorem nextPhase_ne_idle {op : Prim} {p : Phase} (h : refusalOf op p = none) (c : Cfg) :
    nextPhase c op p ≠ .idle := by
  cases op with
  | start => simp [nextPhase]
  | write v =>
    obtain rfl | rfl := refusalOf_write_eq_none.1 h
    · rw [nextPhase_write_addr]
      split <;> simp
    · simp [nextPhase]
  | read ack =>
    obtain rfl := refusalOf_read_eq_none.1 h
    cases ack <;> simp [nextPhase]

/-- The part of the invariant that speaks of the bus: the history ends in PHASE, and STATUS is unspecified
exactly in IDLE. -/
structure State.SessionInv (s : State) : Prop where
  busReplays : replay s.cfg .idle s.bus = some s.phase
  statusKnown : s.status = .unspecified ↔ s.phase = .idle

theorem State.Inv.session (hs : s.Inv) : s.SessionInv := ⟨hs.busReplays, hs.statusKnown⟩

theorem State.SessionInv.complete {op : Prim} (hs : s.SessionInv) (hop : refusalOf op s.phase = none)
    (st b : Byte) (rest : List BusAnswer) : (complete op st b { s with env := rest }).SessionInv where
  busReplays := by
    have hbus : State.bus { s with env := rest } = s.bus := rfl
    simp [hbus, replay_concat, hs.busReplays, replayEvent_eventOf hop]
  statusKnown := by simp [nextPhase_ne_idle hop]

theorem State.SessionInv.accept (hs : s.SessionInv) (q : FSeq) : (accept q s).SessionInv :=
  ⟨hs.busReplays, hs.statusKnown⟩

theorem State.SessionInv.passed (hs : s.SessionInv) (r : FramerRow) : (passed r s).SessionInv :=
  ⟨hs.busReplays, hs.statusKnown⟩

theorem State.SessionInv.mismatch (hs : s.SessionInv) (c : ErrorCode) : (mismatch c s).SessionInv :=
  ⟨hs.busReplays, hs.statusKnown⟩

@[simp] theorem reportFailure_bus (s : State) : (reportFailure s).bus = s.bus := by
  unfold reportFailure
  split
  · rfl
  · exact sinkSend_bus s _

@[simp] theorem finish_bus (s : State) : (finish s).bus = s.bus ++ [.stop (s.phase != .idle)] := by
  simp [finish, respondFramer]

/-- A STOP closes the session the history is in (R93, R103). -/
theorem State.SessionInv.replay_stop (hs : s.SessionInv) :
    replay s.cfg .idle (s.bus ++ [.stop (s.phase != .idle)]) = some .idle := by
  simp [replay_concat, hs.busReplays, replayEvent]

/-! ### The framer between two rows (R111 to R113) -/

/-- The framer after a matching check, with the rows `rows` still to run: its step is not issued yet. A
configuration that breaks R9 can lead to a phase in which the next row is refused, so `phase` speaks of an
admitted row only. -/
structure State.BetweenRows (rows : List FramerRow) (s : State) : Prop where
  rowsLeft : rowsFromStep s = rows
  running : s.fseq ≠ .none
  stepPos : s.fstep ≠ 0
  phase : ∀ r ∈ rows.head?, refusalOf r.op s.phase = none → framerPhase s.fseq s.fstep s.phase = true
  inflight : s.inflight = none
  ferr : s.ferr = .ok
  fbyte : rows ≠ [] → s.fbyte = s.cfg.failByte
  session : s.SessionInv

theorem rowsFromStep_eq_drop {k : Nat} (h : s.fstep = k + 1) : rowsFromStep s = (framerRows s).drop k := by
  simp [rowsFromStep, h]

/-- The rows left after a matching check are the tail of those before it. -/
theorem rowsFromStep_passed {r : FramerRow} {rs : List FramerRow} (h : rowsFromStep s = r :: rs)
    {op : Prim} {st b : Byte} {rest : List BusAnswer} :
    rowsFromStep (passed r (complete op st b { s with env := rest })) = rs := by
  cases hk : s.fstep with
  | zero => simp [rowsFromStep, hk] at h
  | succ k =>
    rw [rowsFromStep_eq_drop hk] at h
    rw [rowsFromStep_eq_drop (k := k + 1) (by simp), ← List.tail_drop]
    exact congrArg List.tail h

/-- Of two consecutive rows the first does not capture (R113), and where the second is admitted after the
first, the phase is one of the next step (R112, R113). -/
theorem consecutive_rows {r q : FramerRow} {rs : List FramerRow} (h : rowsFromStep s = r :: q :: rs) :
    r.capture = false ∧ (framerPhase s.fseq s.fstep s.phase = true →
      refusalOf q.op (nextPhase s.cfg r.op s.phase) = none →
      framerPhase s.fseq (s.fstep + 1) (nextPhase s.cfg r.op s.phase) = true) := by
  cases hk : s.fstep with
  | zero => simp [rowsFromStep, hk] at h
  | succ k =>
    rw [rowsFromStep_eq_drop hk] at h
    cases hq : s.fseq <;> simp only [framerRows, hq, wakeupRows, readregRows] at h
    case none => simp at h
    case wakeup =>
      rcases k with _ | _ | _ | _ | k <;> simp at h
      all_goals
        obtain ⟨rfl, rfl, -⟩ := h
        cases s.phase <;> simp [framerPhase, nextPhase]
      split <;> simp
    case readreg =>
      rcases k with _ | _ | _ | _ | _ | _ | k <;> simp at h
      all_goals
        obtain ⟨rfl, rfl, -⟩ := h
        cases s.phase <;> simp [framerPhase, nextPhase]
      all_goals split <;> simp

namespace State.Inv

/-! ### Updates of the state -/

/-- The invariant does not speak of DATA, RSP, the answers, requests and free values to come, the polling
loop, and of the merged history only through the bus events in it. -/
theorem frame {data : Byte} {rsp : Word16} {trace : List Obs} {env : List BusAnswer} {draws : Nat}
    {requests : List Request} {poll : Option PollHost} (hs : s.Inv)
    (hbus : trace.filterMap Obs.busEvent? = s.bus) :
    State.Inv { s with
      data := data, rsp := rsp, trace := trace, env := env, draws := draws, requests := requests,
      poll := poll } where
  stepZero := hs.stepZero
  doneLow := hs.doneLow
  admitted := hs.admitted
  framer := hs.framer
  failByte := hs.failByte
  busReplays := by
    show replay s.cfg .idle (trace.filterMap Obs.busEvent?) = some s.phase
    rw [hbus, hs.busReplays]
  statusKnown := hs.statusKnown

theorem record {e : Obs} (hs : s.Inv) (he : e.busEvent? = none) : (record e s).Inv :=
  hs.frame (record_bus_of_not_bus he s)

theorem deliver (w : Word16) (hs : s.Inv) : (deliver w s).Inv :=
  hs.frame (deliver_bus s w)

theorem readStatus (hs : s.Inv) : (readStatus s).2.Inv := by
  cases hst : s.status with
  | code st => simpa [readStatus_code hst] using hs
  | unspecified => simpa [readStatus_unspecified hst] using hs.frame rfl

theorem respondStatus (byte : Byte) (hs : s.Inv) : (respondStatus byte s).Inv :=
  hs.readStatus.deliver _

theorem holdState (hs : s.Inv) : (holdState s).Inv := by
  obtain ⟨env, h, -⟩ := holdState_eq s
  exact h ▸ hs.frame rfl

/-- A reset leaves the empty history of a closed session and a block at rest (R44, R180). -/
theorem restart (s : State) : (restart s).Inv where
  stepZero := iff_of_true rfl rfl
  doneLow := nofun
  admitted := nofun
  framer h := absurd rfl h
  failByte h := absurd rfl h
  busReplays := rfl
  statusKnown := iff_of_true rfl rfl

/-! ### A primitive of the host -/

theorem issue {op : Prim} (hs : s.Inv) (hb : s.busy = false) (hop : refusalOf op s.phase = none) :
    (issue op s).Inv where
  stepZero := hs.stepZero
  doneLow _ := rfl
  admitted _ h := by
    cases h
    exact hop
  framer h := absurd (fseq_of_not_busy s hb) h
  failByte := hs.failByte
  busReplays := hs.busReplays
  statusKnown := hs.statusKnown

theorem complete {op : Prim} (hs : s.Inv) (hop : s.inflight = some op) (hq : s.fseq = .none) (st b : Byte)
    (rest : List BusAnswer) : (complete op st b { s with env := rest }).Inv where
  stepZero := hs.stepZero
  doneLow h := absurd rfl h
  admitted := nofun
  framer h := absurd hq h
  failByte := hs.failByte
  busReplays := (hs.session.complete (hs.admitted op hop) st b rest).busReplays
  statusKnown := (hs.session.complete (hs.admitted op hop) st b rest).statusKnown

theorem awaitForHost {op : Prim} (hs : s.Inv) (hop : s.inflight = some op) (hq : s.fseq = .none) :
    Ensures State.Inv (awaitForHost op s) := by
  unfold Machine.awaitForHost
  obtain ⟨st, b, rest, -, ha⟩ | ⟨-, ha⟩ := askBus_cases op s
  · simpa [ha] using (hs.complete hop hq st b rest).respondStatus _
  · simpa [ha] using hs.holdState

theorem hostPrimitive (op : Prim) (hs : s.Inv) : Ensures State.Inv (hostPrimitive op s) := by
  refine Ensures.whenReady fun hb => ?_
  cases hop : refusalOf op s.phase with
  | some r => exact ensures_refused r
  | none => exact (hs.issue hb hop).awaitForHost rfl (fseq_of_not_busy s hb)

theorem stopBus (hs : s.Inv) (hb : s.busy = false) : (stopBus s).Inv where
  stepZero := hs.stepZero
  doneLow := hs.doneLow
  admitted _ h := by simp [inflight_of_not_busy s hb] at h
  framer h := absurd (fseq_of_not_busy s hb) h
  failByte := hs.failByte
  busReplays := by simpa using hs.session.replay_stop
  statusKnown := by simp

/-! ### The framer -/

/-- The stop step leaves the block at rest with the session closed (R116, R118, R160). -/
theorem finish (hs : s.SessionInv) (hop : s.inflight = none)
    (hbyte : s.ferr ≠ .ok → s.fbyte = s.cfg.failByte) : (finish s).Inv := by
  have hbus := finish_bus s
  obtain ⟨tr, h, -⟩ := finish_spec s
  rw [h] at hbus ⊢
  exact {
    stepZero := by simp
    doneLow := fun h => absurd hop h
    admitted := by simp [hop]
    framer := fun h => absurd rfl h
    failByte := hbyte
    busReplays := by rw [hbus, hs.replay_stop]
    statusKnown := by simp }

/-- The next row's primitive is in flight: the held state of R122. -/
theorem issueRow {r : FramerRow} {rs : List FramerRow} (hs : s.BetweenRows (r :: rs))
    (hop : refusalOf r.op s.phase = none) : (Machine.issue r.op s).Inv where
  stepZero := iff_of_false hs.running hs.stepPos
  doneLow _ := rfl
  admitted _ h := by
    cases h
    exact hop
  framer _ := ⟨⟨r, rs, hs.rowsLeft, rfl⟩, hs.phase r rfl hop, hs.ferr, hs.fbyte (List.cons_ne_nil r rs)⟩
  failByte h := absurd hs.ferr h
  busReplays := hs.session.busReplays
  statusKnown := hs.session.statusKnown

/-- A completed row that passes its check leads to the rows after it (R111). -/
theorem passed {r : FramerRow} {rs : List FramerRow} (hs : s.Inv) (hq : s.fseq ≠ .none)
    (hop : s.inflight = some r.op) (hrow : rowsFromStep s = r :: rs) (st b : Byte) (rest : List BusAnswer) :
    (passed r (Machine.complete r.op st b { s with env := rest })).BetweenRows rs := by
  obtain ⟨-, hphase, hferr, hfbyte⟩ := hs.framer hq
  exact {
    rowsLeft := rowsFromStep_passed hrow
    running := hq
    stepPos := Nat.succ_ne_zero _
    phase := fun q hmem hadm => by
      obtain ⟨qs, rfl⟩ := List.head?_eq_some_iff.1 hmem
      exact (consecutive_rows hrow).2 hphase hadm
    inflight := rfl
    ferr := hferr
    fbyte := fun hne => by
      obtain ⟨q, qs, rfl⟩ := List.exists_cons_of_ne_nil hne
      simpa [(consecutive_rows hrow).1] using hfbyte
    session := (hs.session.complete (hs.admitted r.op hop) st b rest).passed r }

/-- A completed row that fails its check leads to the stop step with FAIL_BYTE kept (R160). -/
theorem failed {r : FramerRow} (hs : s.Inv) (hq : s.fseq ≠ .none) (hop : s.inflight = some r.op)
    (st b : Byte) (rest : List BusAnswer) :
    (Machine.finish (mismatch r.err (Machine.complete r.op st b { s with env := rest }))).Inv := by
  obtain ⟨-, -, -, hfbyte⟩ := hs.framer hq
  exact finish ((hs.session.complete (hs.admitted r.op hop) st b rest).mismatch r.err) rfl fun _ => hfbyte

theorem runRows {rows : List FramerRow} (hs : s.BetweenRows rows) : Ensures State.Inv (runRows rows s) := by
  intro t ht
  refine runRows_induction (P := fun rows u => u.BetweenRows rows) ?done ?held ?fail ?pass rows s t hs ht
  case done => exact fun u hu => finish hu.session hu.inflight fun h => absurd hu.ferr h
  case held => exact fun _ _ u hu hop _ => (issueRow hu hop).holdState
  case fail => exact fun _ _ u st b rest hu hop _ _ => (issueRow hu hop).failed hu.running rfl st b rest
  case pass => exact fun r _ u b rest hu hop _ => (issueRow hu hop).passed hu.running rfl hu.rowsLeft _ b rest

/-- Going on with a held row keeps the invariant, whatever the bus answers (R111, R122). -/
theorem resumeFramer {op : Prim} (hs : s.Inv) (hq : s.fseq ≠ .none) (hop : s.inflight = some op) :
    Ensures State.Inv (resumeFramer op s) := by
  obtain ⟨⟨r, rs, hrow, hr⟩, -⟩ := hs.framer hq
  obtain rfl : r.op = op := Option.some.inj (hr.symm.trans hop)
  rw [resumeFramer_row hrow]
  obtain ⟨st, b, rest, -, ha⟩ | ⟨-, ha⟩ := askBus_cases r.op s
  · by_cases hst : st = r.expected
    · simpa [ha, checkRow, hst] using runRows (hs.passed hq hop hrow r.expected b rest)
    · simpa [ha, checkRow, hst] using hs.failed hq hop st b rest
  · simpa [ha, checkRow] using hs.holdState

/-- An accepted framer command stands before its first row, in whatever phase (R110, R121). -/
theorem accept (hs : s.SessionInv) (hop : s.inflight = none) {q : FSeq} (hq : q ≠ .none) :
    (accept q s).BetweenRows (framerRows (accept q s)) where
  rowsLeft := rfl
  running := hq
  stepPos := Nat.one_ne_zero
  phase _ _ _ := by cases q <;> simp [framerPhase]
  inflight := hop
  ferr := rfl
  fbyte _ := rfl
  session := hs.accept q

/-! ### Commands, resumption, the step -/

theorem exec (i : Instr) (hs : s.Inv) : Ensures State.Inv (exec i s) := by
  cases i with
  | start => exact hs.hostPrimitive .start
  | write v => exact hs.hostPrimitive (.write v)
  | readAck => exact hs.hostPrimitive (.read true)
  | readNack => exact hs.hostPrimitive (.read false)
  | stop => exact Ensures.whenReady fun hb => ensures_next.2 (hs.stopBus hb)
  | status => exact Ensures.whenReady fun _ => ensures_next.2 (hs.respondStatus _)
  | wakeup => exact Ensures.whenReady fun hb => runRows (accept hs.session (inflight_of_not_busy s hb) nofun)
  | readreg r =>
    have hr : { s with freg := r }.SessionInv := ⟨hs.busReplays, hs.statusKnown⟩
    exact Ensures.whenReady fun hb => runRows (accept hr (inflight_of_not_busy s hb) nofun)

theorem resume (hs : s.Inv) (hb : s.busy = true) : Ensures State.Inv (resume s) := by
  by_cases hq : s.fseq = .none
  · obtain ⟨op, hop⟩ : ∃ op, s.inflight = some op := by
      simpa [State.busy, hq, Option.isSome_iff_exists] using hb
    exact resume_host hop hq ▸ hs.awaitForHost hop hq
  · obtain ⟨⟨r, rs, -, hop⟩, -⟩ := hs.framer hq
    exact resume_framer hop hq ▸ hs.resumeFramer hq hop

theorem keptByMoves : KeptByMoves State.Inv where
  resume _ hs hb := hs.resume hb
  exec i _ hs := hs.exec i
  restart s _ := restart s
  draw _ hs := hs.frame rfl
  note _ _ he _ hs := hs.record he
  loop _ _ hs := hs.frame rfl
  dequeue _ _ hs := hs.frame rfl

end State.Inv

/-- Settles O39: every move a step is made of keeps the invariant, by the induction over the framer's rows
with `State.BetweenRows` between two of them. -/
theorem stepKeepsTheInvariant : Obligations.StepKeepsTheInvariant :=
  fun _ t hs ht => State.Inv.keptByMoves.step hs t ht

/-- Settles O38: the reset state is the restart of itself. -/
theorem resetMeetsTheInvariant : Obligations.ResetMeetsTheInvariant :=
  State.Inv.restart State.reset

end Sys2Proof.Machine
end

section
/-! The merged history (R31, R32, R60) and RSP (R40, R71): every move but a restart appends to the history and
leaves in RSP the last response appended, if any. Both obligations about them follow from this one relation. -/

namespace Sys2Proof.Machine

variable {s t u : State}

theorem getLastD_append {α : Type} (xs ys : List α) (a : α) :
    (xs ++ ys).getLastD a = ys.getLastD (xs.getLastD a) := by
  simp [List.getLastD_eq_getLast?, List.getLast?_append]

/-- The history of `t` is that of `s` with entries appended, and RSP holds the last response among them, or
what it held in `s` where there is none. -/
def Extends (s t : State) : Prop :=
  ∃ es, t.trace = s.trace ++ es ∧ t.rsp = (es.filterMap Obs.response?).getLastD s.rsp

namespace Extends

theorem of_eq (htrace : t.trace = s.trace) (hrsp : t.rsp = s.rsp) : Extends s t :=
  ⟨[], by simpa using htrace, hrsp⟩

theorem refl (s : State) : Extends s s := of_eq rfl rfl

theorem trans (hst : Extends s t) (htu : Extends t u) : Extends s u := by
  obtain ⟨es, hes, hrs⟩ := hst
  obtain ⟨fs, hfs, hru⟩ := htu
  refine ⟨es ++ fs, by rw [hfs, hes, List.append_assoc], ?_⟩
  rw [hru, hrs, List.filterMap_append, getLastD_append]

theorem ensures {o : Result} (hst : Extends s t) (ho : Ensures (Extends t) o) : Ensures (Extends s) o :=
  fun u hu => hst.trans (ho u hu)

/-! ### Operations -/

/-- An entry that is no response leaves RSP as it was. -/
theorem record {e : Obs} (he : e.response? = none) (s : State) : Extends s (record e s) :=
  ⟨[e], rfl, by simp [he]⟩

theorem deliver (w : Word16) (s : State) : Extends s (deliver w s) := ⟨[.response w], rfl, rfl⟩

theorem readStatus (s : State) : Extends s (readStatus s).2 := by
  unfold Machine.readStatus
  split <;> exact of_eq rfl rfl

theorem respondStatus (byte : Byte) (s : State) : Extends s (respondStatus byte s) :=
  (readStatus s).trans (deliver _ _)

theorem holdState (s : State) : Extends s (holdState s) := by
  obtain ⟨env, h, -⟩ := holdState_eq s
  exact h ▸ of_eq rfl rfl

theorem complete (op : Prim) (st b : Byte) (rest : List BusAnswer) (s : State) :
    Extends s (complete op st b { s with env := rest }) :=
  ⟨[.bus (eventOf s.cfg s.phase st b op)], rfl, rfl⟩

theorem passed (h : Extends s t) (r : FramerRow) : Extends s (passed r t) := h

theorem mismatch (h : Extends s t) (c : ErrorCode) : Extends s (mismatch c t) := h

theorem stopBus (s : State) : Extends s (stopBus s) := ⟨[.bus (.stop (s.phase != .idle))], rfl, rfl⟩

theorem reportFailure (s : State) : Extends s (reportFailure s) := by
  unfold Machine.reportFailure
  split
  · exact refl s
  · exact record rfl s

theorem finish (s : State) : Extends s (finish s) :=
  (stopBus s).trans ((reportFailure _).trans (deliver (framerResponse _) _))

theorem pollTake (s : State) : Extends s (pollTake s) := by
  obtain ⟨q, tr, ht, rfl | ⟨b, rfl⟩⟩ := pollTake_spec s
  · exact ht ▸ of_eq (List.append_nil _) rfl
  · exact ht ▸ ⟨[.sink b], rfl, rfl⟩

/-! ### Commands -/

theorem awaitForHost (op : Prim) (s : State) : Ensures (Extends s) (awaitForHost op s) := by
  unfold Machine.awaitForHost
  obtain ⟨st, b, rest, -, ha⟩ | ⟨-, ha⟩ := askBus_cases op s
  · simpa [ha] using (complete op st b rest s).trans (respondStatus _ _)
  · simpa [ha] using holdState s

theorem hostPrimitive (op : Prim) (s : State) : Ensures (Extends s) (hostPrimitive op s) := by
  refine Ensures.whenReady fun _ => ?_
  cases refusalOf op s.phase with
  | some r => exact ensures_refused r
  | none => exact awaitForHost op (issue op s)

theorem runRows (rows : List FramerRow) (s : State) : Ensures (Extends s) (runRows rows s) := by
  intro t ht
  refine runRows_induction (P := fun _ u => Extends s u) ?done ?held ?fail ?pass rows s t (refl s) ht
  case done => exact fun u hu => hu.trans (finish u)
  case held => exact fun r _ u hu _ _ => hu.trans (holdState (issue r.op u))
  case fail =>
    exact fun r _ u st b rest hu _ _ _ => (hu.trans (complete r.op st b rest (issue r.op u))).trans (finish _)
  case pass => exact fun r _ u b rest hu _ _ => hu.trans (complete r.op r.expected b rest (issue r.op u))

theorem checkRow (r : FramerRow) (rs : List FramerRow) (op : Prim) (s : State) :
    Ensures (Extends s) (checkRow r (Machine.runRows rs) (askBus op s)) := by
  obtain ⟨st, b, rest, -, ha⟩ | ⟨-, ha⟩ := askBus_cases op s
  · have hc := complete op st b rest s
    by_cases hst : st = r.expected
    · simpa [ha, Machine.checkRow, hst] using (hst ▸ hc.passed r).ensures (runRows rs _)
    · simpa [ha, Machine.checkRow, hst] using (hc.mismatch r.err).trans (finish _)
  · simpa [ha, Machine.checkRow] using holdState s

theorem resumeFramer (op : Prim) (s : State) : Ensures (Extends s) (resumeFramer op s) := by
  unfold Machine.resumeFramer
  split
  · exact ensures_fault _
  · split
    · exact checkRow _ _ op s
    · exact ensures_fault _

theorem resume (s : State) : Ensures (Extends s) (resume s) := by
  unfold Machine.resume
  split
  · exact ensures_next.2 (refl s)
  · unfold continueFramer
    split
    · exact ensures_fault _
    · exact runRows _ s
  · exact awaitForHost _ s
  · exact resumeFramer _ s

theorem exec (i : Instr) (s : State) : Ensures (Extends s) (exec i s) := by
  cases i with
  | start => exact hostPrimitive .start s
  | write v => exact hostPrimitive (.write v) s
  | readAck => exact hostPrimitive (.read true) s
  | readNack => exact hostPrimitive (.read false) s
  | stop => exact Ensures.whenReady fun _ => ensures_next.2 (stopBus s)
  | status => exact Ensures.whenReady fun _ => ensures_next.2 (respondStatus _ s)
  | wakeup => exact Ensures.whenReady fun _ => runRows _ (accept .wakeup s)
  | readreg r => exact Ensures.whenReady fun _ => runRows _ (accept .readreg { s with freg := r })

/-! ### The step -/

theorem pollIssue (i : Instr) (p : PollHost) (s : State) : Ensures (Extends s) (pollIssue i p s) :=
  Ensures.thenNext (exec i (setPoll { p with waiting := true } s)) fun u (hu : Extends s u) =>
    hu.trans (pollTake u)

theorem pollStep (p : PollHost) (s : State) : Ensures (Extends s) (pollStep p s) := by
  unfold Machine.pollStep
  split
  case h_1 => exact ensures_next.2 (record (e := .sinkInit) rfl s)
  case h_2 => exact pollIssue _ p s
  case h_3 => exact ensures_next.2 (refl s)
  case h_4 => exact pollIssue _ p s
  case h_5 => exact pollIssue _ p s
  case h_6 => exact ensures_next.2 (record (e := .sink p.high) rfl s)
  case h_7 => exact ensures_next.2 (record (e := .sink p.low) rfl s)
  case h_8 => exact ensures_next.2 (record (e := .sink s.cfg.newline) rfl s)
  case h_9 => exact ensures_next.2 (record rfl s)
  case h_10 => exact ensures_next.2 (refl s)

theorem advance (s : State) : Ensures (Extends s) (advance s) := by
  unfold Machine.advance
  split
  · exact (resume s).thenNext fun u hu => hu.trans (pollTake u)
  · split
    · exact ensures_next.2 (refl s)
    · exact pollStep _ s

theorem serveRead (off : Nat) (s : State) : Ensures (Extends s) (serveRead off s) := by
  unfold Machine.serveRead readInterface
  split
  case h_1 v t hv =>
    have ht : Extends s t := by
      split at hv <;> cases hv
      case h_3 => exact readStatus s
      all_goals exact refl s
    exact ensures_next.2 (ht.trans (record rfl t))
  case h_2 => exact ensures_fault _
  case h_3 => exact ensures_refused _

theorem serveWrite (off : Nat) (v : Word16) (s : State) : Ensures (Extends s) (serveWrite off v s) := by
  unfold Machine.serveWrite
  split
  case h_1 =>
    unfold issueWord
    split
    · exact exec _ s
    · exact ensures_refused _
  all_goals exact ensures_refused _

theorem serve {a : Access} (ha : a ≠ .reset) (s : State) : Ensures (Extends s) (serve a s) := by
  cases a with
  | write off v => exact serveWrite off v s
  | read off => exact serveRead off s
  | reset => exact absurd rfl ha
  | idle => exact advance s

end Extends

/-- A step extends the history, or serves a reset. -/
theorem step_extends_or_restarts (h : step s = .next t) :
    Extends s t ∨
      ∃ who rest, s.requests = ⟨who, .reset⟩ :: rest ∧ t = restart { s with requests := rest } := by
  obtain hst | ⟨⟨who, a⟩, rest, hreq, -, hst⟩ := step_cases s
  · exact .inl (Extends.advance s t (hst ▸ h))
  · by_cases ha : a = .reset
    · subst ha
      rw [hst] at h
      cases h
      exact .inr ⟨who, rest, hreq, rfl⟩
    · exact .inl (Extends.serve ha { s with requests := rest } t (hst ▸ h))

/-- Settles O44: a step that serves no reset only appends. -/
theorem historyOnlyGrows : Obligations.HistoryOnlyGrows := by
  intro s t h
  obtain ⟨es, hes, -⟩ | ⟨who, rest, hreq, rfl⟩ := step_extends_or_restarts h
  · exact .inl ⟨es, hes.symm⟩
  · exact .inr ⟨who, rest, hreq, rfl⟩

theorem Extends.rsp_eq_getLastD (h : Extends s t) (hs : s.rsp = s.responses.getLastD 0x0000#16) :
    t.rsp = t.responses.getLastD 0x0000#16 := by
  obtain ⟨es, hes, hrsp⟩ := h
  rw [responses_append s t es hes, getLastD_append, hrsp, hs]

/-- Settles O45: a step that serves no reset leaves in RSP the last response it appends. -/
theorem rspHoldsTheLastResponse : Obligations.RspHoldsTheLastResponse := by
  refine ⟨rfl, fun s t hs h => ?_⟩
  obtain hext | ⟨who, rest, -, rfl⟩ := step_extends_or_restarts h
  · exact hext.rsp_eq_getLastD hs
  · rfl

end Sys2Proof.Machine
end

section
/-! Command words that the step runs (R40, R56, R70), the register view (R40, R41), the STATUS command
(R104) and the reset values (R44). -/

namespace Sys2Proof.Machine

variable {s : State}

/-! ### Command words -/

theorem decode_append (op arg : Byte) : decode (op ++ arg) = decodeFields ⟨op, arg⟩ := by
  rw [decode, Laws.FieldsOfWord.wordFields_append]

/-- The decoder reads back what the encoder writes (R70, R74). -/
@[simp] theorem decode_encode (i : Instr) : decode (encode i) = .ok i := by
  rw [encode, decode_append]
  cases i <;> rfl

/-- All sixteen bits of a word are its low sixteen. -/
@[simp] theorem tableWord_toNat (w : Word16) : tableWord 16 w.toNat = w := by
  rw [tableWord, Nat.mod_eq_of_lt w.isLt, BitVec.ofNat_toNat, BitVec.setWidth_eq]

theorem serveWrite_cmd {w : Word16} {i : Instr} (h : decode w = .ok i) (s : State) :
    serveWrite 0 w s = exec i s := by
  simp [serveWrite, issueWord, h]

/-- Settles O6: the access is served, and CMD issues the command the word decodes to. -/
theorem stepRunsTheDecodedCommand : Obligations.StepRunsTheDecodedCommand := by
  intro s who w rest i hb hreq hw
  rw [step_not_busy hb hreq]
  exact serveWrite_cmd hw _

/-- Settles O7: the word placed is the encoding of `i`, which decodes to `i`. -/
theorem placedWordRunsNext : Obligations.PlacedWordRunsNext := by
  intro s i hb
  refine stepRunsTheDecodedCommand (s.withFetchWord 16 (encode i).toNat) .host (encode i) s.requests i hb ?_
    (decode_encode i)
  rw [State.withFetchWord, tableWord_toNat]

/-! ### STATUS and the reset values -/

theorem exec_status_code {st : Byte} (hb : s.busy = false) (h : s.status = .code st) :
    exec .status s = .next (deliver (responseWord st 0x00#8) s) := by
  simp [exec, execStatus, whenReady, hb, respondStatus_code h]

/-- Settles O37: the first STATUS leaves the register, and BUSY, as they were. -/
theorem statusReadsAgree : Obligations.StatusReadsAgree := fun _ _ hb h =>
  ⟨_, _, exec_status_code hb h, exec_status_code hb h, rfl, rfl, h⟩

/-- Settles O47: every value is a field of `State.reset` or a view of its fields. -/
theorem resetValues : Obligations.ResetValues := by
  unfold Obligations.ResetValues
  decide

/-! ### FLAGS (R41) -/

/-- Each field of a byte put together as FLAGS is, read back. (`simp` keeps the width a sum, so that the lemmas
about `++` apply.) -/
theorem flags_layout (q : BitVec 2) (p : BitVec 3) (b e d : Bool) :
    (q ++ p ++ BitVec.ofBool b ++ BitVec.ofBool e ++ BitVec.ofBool d)[0] = d ∧
    (q ++ p ++ BitVec.ofBool b ++ BitVec.ofBool e ++ BitVec.ofBool d)[1] = e ∧
    (q ++ p ++ BitVec.ofBool b ++ BitVec.ofBool e ++ BitVec.ofBool d)[2] = b ∧
    (q ++ p ++ BitVec.ofBool b ++ BitVec.ofBool e ++ BitVec.ofBool d).extractLsb' 3 3 = p ∧
    (q ++ p ++ BitVec.ofBool b ++ BitVec.ofBool e ++ BitVec.ofBool d).extractLsb' 6 2 = q := by
  simp [-Nat.reduceAdd, BitVec.getElem_append, BitVec.getElem_ofBool,
    BitVec.extractLsb'_append_eq_of_le, BitVec.extractLsb'_append_eq_right]

theorem flagsByte_fields (s : State) :
    (flagsByte s)[0] = s.done ∧ (flagsByte s)[1] = s.session ∧ (flagsByte s)[2] = s.busy ∧
    (flagsByte s).extractLsb' 3 3 = phaseBits s.phase ∧ (flagsByte s).extractLsb' 6 2 = fseqBits s.fseq :=
  flags_layout (fseqBits s.fseq) (phaseBits s.phase) s.busy s.session s.done

/-- A host reads FLAGS where BUSY = 0 and so sees no sequence and BUSY = 0 (R41, R90). -/
theorem flagsRead_of_not_busy (hb : s.busy = false) :
    ((flagsByte s).setWidth 16)[2] = false ∧ ((flagsByte s).setWidth 16).extractLsb' 6 2 = 0#2 := by
  obtain ⟨-, -, hbusy, -, hfseq⟩ := flagsByte_fields s
  constructor
  · rw [BitVec.getElem_setWidth, ← hb, ← hbusy, BitVec.getLsbD_eq_getElem]
  · rw [BitVec.extractLsb'_setWidth_of_le (by decide), hfseq, fseq_of_not_busy s hb, fseqBits]

/-- Settles O49: the fields of FLAGS one by one; a host's read is served where BUSY = 0 only. -/
theorem flagsFields : Obligations.FlagsFields := by
  intro s
  obtain ⟨hdone, hsession, hbusy, hphase, hfseq⟩ := flagsByte_fields s
  refine ⟨hdone, hsession, hbusy, ?phase, ?fseq, rfl, fun _ => rfl, fun rest hreq => ⟨?served, ?waits⟩⟩
  case phase =>
    rw [hphase]
    cases s.phase <;> rfl
  case fseq =>
    rw [hfseq]
    cases s.fseq <;> rfl
  case served =>
    intro hb
    refine ⟨_, rfl, ?_, flagsRead_of_not_busy hb⟩
    rw [step_not_busy hb hreq]
    rfl
  case waits => exact fun hb => step_waits hb hreq

/-! ### The register view (R40) -/

/-- Settles O50: an access at each offset of the view, and beyond. -/
theorem registerView : Obligations.RegisterView := by
  intro s
  refine ⟨fun i => serveWrite_cmd (decode_encode i) s, rfl, rfl, ?status, ?unspecified, rfl, rfl, ?readOnly,
    ?beyond⟩
  case status =>
    intro st h
    simp [readInterface, readStatus_code h]
  case unspecified =>
    intro h
    exact ⟨Config.freeByte s.draws, by simp [readInterface, readStatus_unspecified h]⟩
  case readOnly =>
    intro off v h1 h5
    interval_cases off <;> rfl
  case beyond =>
    intro off v h
    obtain ⟨k, rfl⟩ := Nat.exists_eq_add_of_le' h
    exact ⟨rfl, rfl⟩

end Sys2Proof.Machine
end

section
/-! The configuration, which no step changes (R8, R64), and the reads of the register view, which change nothing
of the block (R40, R57). -/

namespace Sys2Proof.Machine

variable {s t : State}

/-! ### The configuration -/

theorem SameAgents.trans {u : State} (hst : SameAgents s t) (htu : SameAgents t u) : SameAgents s u :=
  ⟨htu.cfg.trans hst.cfg, htu.requests.trans hst.requests, htu.poll.trans hst.poll⟩

theorem respondStatus_agents (byte : Byte) (s : State) : SameAgents s (respondStatus byte s) := by
  unfold respondStatus readStatus
  split <;> exact ⟨rfl, rfl, rfl⟩

theorem hostPrimitive_agents (op : Prim) (s : State) : Ensures (SameAgents s) (hostPrimitive op s) := by
  intro t h
  have hissue : SameAgents s (issue op s) := ⟨rfl, rfl, rfl⟩
  obtain ⟨-, -, ⟨_, _, _, -, rfl⟩ | ⟨-, rfl⟩⟩ := hostPrimitive_cases h
  · exact ⟨rfl, rfl, rfl⟩
  · exact hissue.trans (holdState_agents _)

theorem runFramer_accept_agents (q : FSeq) (s : State) : Ensures (SameAgents s) (runFramer (accept q s)) := by
  intro t h
  have haccept : SameAgents s (accept q s) := ⟨rfl, rfl, rfl⟩
  exact haccept.trans (runRows_agents h)

/-- A command leaves the configuration, the requests and the polling loop alone. -/
theorem exec_agents (i : Instr) (s : State) : Ensures (SameAgents s) (exec i s) := by
  cases i with
  | start => exact hostPrimitive_agents .start s
  | write v => exact hostPrimitive_agents (.write v) s
  | readAck => exact hostPrimitive_agents (.read true) s
  | readNack => exact hostPrimitive_agents (.read false) s
  | stop => exact Ensures.whenReady fun _ => ensures_next.2 ⟨rfl, rfl, rfl⟩
  | status => exact Ensures.whenReady fun _ => ensures_next.2 (respondStatus_agents _ s)
  | wakeup => exact Ensures.whenReady fun _ => runFramer_accept_agents .wakeup s
  | readreg r =>
    have hfreg : SameAgents s { s with freg := r } := ⟨rfl, rfl, rfl⟩
    exact Ensures.whenReady fun _ t h => hfreg.trans (runFramer_accept_agents .readreg _ t h)

theorem keptByMoves_cfg (c : Cfg) : KeptByMoves fun s => s.cfg = c where
  resume _ hs _ _ ht := (resume_agents ht).cfg.trans hs
  exec i s hs t ht := (exec_agents i s t ht).cfg.trans hs
  restart _ hs := hs
  draw _ hs := hs
  note _ _ _ _ hs := hs
  loop _ _ hs := hs
  dequeue _ _ hs := hs

/-- Settles O43: every move a step is made of, the restart too, keeps the configuration. -/
theorem stepKeepsTheConfiguration : Obligations.StepKeepsTheConfiguration :=
  fun s t h => (keptByMoves_cfg s.cfg).step rfl t h

/-! ### Reads of the register view -/

theorem readInterface_state {off : Nat} {v : Word16} (h : readInterface off s = .next (v, t)) :
    ∃ n, t = { s with draws := n } := by
  unfold readInterface at h
  split at h <;> cases h
  case h_3 =>
    unfold readStatus
    split <;> exact ⟨_, rfl⟩
  all_goals exact ⟨s.draws, rfl⟩

/-- A read that is served records the value read, and may use up a free value. -/
theorem serveRead_state {off : Nat} (h : serveRead off s = .next t) :
    ∃ v n, t = record (.regRead off v) { s with draws := n } := by
  unfold serveRead at h
  split at h <;> cases h
  next v _ hv =>
    obtain ⟨n, rfl⟩ := readInterface_state hv
    exact ⟨v, n, rfl⟩

/-- Settles O51: the record of a read is no event of the bus, no byte of the sink and no response. -/
theorem registerReadsHaveNoSideEffect : Obligations.RegisterReadsHaveNoSideEffect := by
  intro s t off h
  obtain ⟨v, n, rfl⟩ := serveRead_state h
  have htrace : (record (.regRead off v) { s with draws := n }).trace = s.trace ++ [.regRead off v] := rfl
  refine ⟨?bus, ?sink, ?responses, rfl⟩
  case bus => exact (bus_append s _ _ htrace).trans (List.append_nil _)
  case sink => exact (sink_append s _ _ htrace).trans (List.append_nil _)
  case responses => exact (responses_append s _ _ htrace).trans (List.append_nil _)

end Sys2Proof.Machine
end

section
/-! The encoding (30_encoding.md): the decoder as the encoder's inverse (R70, R74), the mask and match table
(R74), the reserved words (R75) and the address byte (R73). -/

namespace Sys2Proof.Machine

/-! ### Words and their fields -/

@[simp] theorem opField_append_argField (w : Word16) : (opField w ++ argField w : Word16) = w :=
  BitVec.extractLsb'_append_extractLsb' (len := 8) (w := 8) (x := w)

theorem fieldsOfWord : ∀ i : Instr, Laws.FieldsOfWord.Statement i
  | .start => Laws.FieldsOfWord.start
  | .write v => Laws.FieldsOfWord.write v
  | .readAck => Laws.FieldsOfWord.readAck
  | .readNack => Laws.FieldsOfWord.readNack
  | .stop => Laws.FieldsOfWord.stop
  | .status => Laws.FieldsOfWord.status
  | .wakeup => Laws.FieldsOfWord.wakeup
  | .readreg r => Laws.FieldsOfWord.readreg r

@[simp] theorem argField_encode (i : Instr) : argField (encode i) = operand i :=
  congrArg CommandWord.arg (fieldsOfWord i).1

/-! ### The decoder inverts the encoder (R70, R74) -/

theorem fields_of_noOperand_ok {c : CommandWord} {i j : Instr} (h : noOperand c j = .ok i)
    (hop : c.op = opcode j) (harg : operand j = 0x00#8) : c = ⟨opcode i, operand i⟩ := by
  unfold noOperand at h
  split at h
  next hc =>
    cases h
    rw [harg, ← hop, ← hc]
  next => cases h

/-- Fields that decode to a command are the operation code and the operand of that command. -/
theorem fields_of_decodeFields_ok {c : CommandWord} {i : Instr} (h : decodeFields c = .ok i) :
    c = ⟨opcode i, operand i⟩ := by
  have hoperand {j : Instr} (hj : j = i) (hop : c.op = opcode j) (harg : c.arg = operand j) :
      c = ⟨opcode i, operand i⟩ := by rw [← hj, ← hop, ← harg]
  unfold decodeFields at h
  split_ifs at h with hop hop hop hop hop hop hop hop
  · exact fields_of_noOperand_ok h hop rfl
  · exact hoperand (Decoded.ok.inj h) hop rfl
  · exact fields_of_noOperand_ok h hop rfl
  · exact fields_of_noOperand_ok h hop rfl
  · exact fields_of_noOperand_ok h hop rfl
  · exact fields_of_noOperand_ok h hop rfl
  · exact fields_of_noOperand_ok h hop rfl
  · exact hoperand (Decoded.ok.inj h) hop rfl

theorem decode_eq_ok_iff {w : Word16} {i : Instr} : decode w = .ok i ↔ encode i = w := by
  constructor
  · intro h
    have hfields : wordFields w = ⟨opcode i, operand i⟩ := fields_of_decodeFields_ok h
    obtain ⟨hop, harg⟩ := CommandWord.mk.inj hfields
    rw [encode, ← hop, ← harg, opField_append_argField]
  · rintro rfl
    exact decode_encode i

theorem wf_eq_true (i : Instr) : i.wf = true := by
  cases i <;> rfl

/-- Settles O1: every command is well formed, and the fields of a word that decodes to it are its own. -/
theorem decodeInvertsEncode : Obligations.DecodeInvertsEncode := by
  intro w i
  simp only [wf_eq_true, true_and, decode_eq_ok_iff]

/-! ### The mask and match table (R74) -/

/-- The mask of a command without operand compares the whole word. -/
theorem and_fullMask_eq_iff (w p : Word16) : w &&& 0xFFFF#16 = p ↔ p = w := by
  rw [show 0xFFFF#16 = BitVec.allOnes 16 from rfl, BitVec.and_allOnes, eq_comm]

/-- The mask of a command with an operand compares the operation code only. -/
theorem and_opMask_eq_iff (w : Word16) (op : Byte) :
    w &&& 0xFF00#16 = op ++ 0x00#8 ↔ (op ++ argField w : Word16) = w := by
  have hmask : w &&& (0xFF#8 ++ 0x00#8 : Word16) = opField w ++ 0x00#8 := by
    conv_lhs => rw [← opField_append_argField w, BitVec.and_append]
    rw [BitVec.and_zero, show 0xFF#8 = BitVec.allOnes 8 from rfl, BitVec.and_allOnes]
  conv_rhs => rhs; rw [← opField_append_argField w]
  rw [show 0xFF00#16 = (0xFF#8 ++ 0x00#8 : Word16) from rfl, hmask, BitVec.append_left_inj,
    BitVec.append_left_inj, eq_comm]

/-- A word hits a row of the table exactly if it is the encoding of the command the row builds from it. -/
theorem hits_iff_encode_build {r : OpcodeRow} (hr : r ∈ opcodeRows) (w : Word16) :
    w &&& r.mask = r.pattern ↔ encode (r.build (argField w)) = w := by
  simp only [opcodeRows, List.mem_cons, List.not_mem_nil, or_false] at hr
  obtain rfl | rfl | rfl | rfl | rfl | rfl | rfl | rfl := hr
  case inr.inl => exact and_opMask_eq_iff w 0x02#8
  case inr.inr.inr.inr.inr.inr.inr => exact and_opMask_eq_iff w 0x11#8
  all_goals
    dsimp only
    exact and_fullMask_eq_iff w _

/-- Every command has a row, which builds it from its operand. -/
theorem exists_row_build (i : Instr) : ∃ r ∈ opcodeRows, i = r.build (operand i) := by
  cases i <;> simp [opcodeRows, operand]

/-- No two rows build the same command. -/
theorem opcodeRows_build_ne : opcodeRows.Pairwise fun r q => ∀ a, r.build a ≠ q.build a := by
  simp [opcodeRows]

theorem decode_eq_ok_iff_row (w : Word16) (i : Instr) :
    decode w = .ok i ↔ ∃ r ∈ opcodeRows, w &&& r.mask = r.pattern ∧ i = r.build (argField w) := by
  rw [decode_eq_ok_iff]
  constructor
  · rintro rfl
    obtain ⟨r, hr, hbuild⟩ := exists_row_build i
    rw [← argField_encode i] at hbuild
    exact ⟨r, hr, (hits_iff_encode_build hr _).2 (hbuild ▸ rfl), hbuild⟩
  · rintro ⟨r, hr, hhit, rfl⟩
    exact (hits_iff_encode_build hr w).1 hhit

/-- Settles O2: a row is hit by the encodings of what it builds; a word that hit two rows would be the encoding
of two commands. -/
theorem decoderFollowsMaskMatchTable : Obligations.DecoderFollowsMaskMatchTable := by
  refine ⟨decode_eq_ok_iff_row, opcodeRows_build_ne.imp_of_mem ?_⟩
  rintro r q hr hq hne w ⟨hrw, hqw⟩
  have hr' := (decode_eq_ok_iff_row w _).2 ⟨r, hr, hrw, rfl⟩
  have hq' := (decode_eq_ok_iff_row w _).2 ⟨q, hq, hqw, rfl⟩
  exact hne (argField w) (Decoded.ok.inj (hr'.symm.trans hq'))

/-! ### The reserved words (R75) -/

theorem opKnown_eq_true_iff {c : CommandWord} : c.opKnown = true ↔
    c.op ∈ [0x01#8, 0x02#8, 0x03#8, 0x04#8, 0x05#8, 0x06#8, 0x10#8, 0x11#8] := List.contains_iff_mem

/-- Fields spell a command exactly if they are well formed. -/
theorem exists_decodeFields_ok_iff {c : CommandWord} : (∃ i, decodeFields c = .ok i) ↔ c.wf = true := by
  constructor
  · rintro ⟨i, h⟩
    rw [fields_of_decodeFields_ok h]
    exact (fieldsOfWord i).2
  · obtain ⟨op, arg⟩ := c
    rw [CommandWord.wf, Bool.and_eq_true, opKnown_eq_true_iff]
    rintro ⟨hop, harg⟩
    simp only [List.mem_cons, List.not_mem_nil, or_false] at hop
    obtain rfl | rfl | rfl | rfl | rfl | rfl | rfl | rfl := hop
    case inr.inl => exact ⟨.write arg, rfl⟩
    case inr.inr.inr.inr.inr.inr.inr => exact ⟨.readreg arg, rfl⟩
    all_goals
      obtain rfl : arg = 0x00#8 := by simpa [CommandWord.argAllowed] using harg
      exact ⟨_, rfl⟩

theorem invalid_iff_not_ok (d : Decoded) : (∃ why, d = .invalid why) ↔ ¬ ∃ i, d = .ok i := by
  cases d <;> simp

/-- The words that R75 lists are those whose fields are not well formed. -/
theorem reserved_iff_not_wf (w : Word16) :
    (opField w ∉ [0x01#8, 0x02#8, 0x03#8, 0x04#8, 0x05#8, 0x06#8, 0x10#8, 0x11#8] ∨
      (opField w ∈ [0x01#8, 0x03#8, 0x04#8, 0x05#8, 0x06#8, 0x10#8] ∧ argField w ≠ 0x00#8)) ↔
    ¬ (wordFields w).wf = true := by
  rw [CommandWord.wf, Bool.and_eq_true, opKnown_eq_true_iff, wordFields]
  generalize opField w = op, argField w = arg
  by_cases hop : op ∈ [0x01#8, 0x02#8, 0x03#8, 0x04#8, 0x05#8, 0x06#8, 0x10#8, 0x11#8]
  case neg => simp only [hop, not_false_eq_true, true_or, false_and]
  case pos =>
    simp only [List.mem_cons, List.not_mem_nil, or_false] at hop
    obtain rfl | rfl | rfl | rfl | rfl | rfl | rfl | rfl := hop <;> simp [CommandWord.argAllowed]

theorem issueWord_invalid {w : Word16} {why : Invalid} (h : decode w = .invalid why) (s : State) :
    issueWord w s = .refused (.reservedWord w) := by
  simp [issueWord, h]

/-- Settles O3: the listed words are those that spell no command, and CMD refuses these. -/
theorem reservedWordsAreRefused : Obligations.ReservedWordsAreRefused := by
  intro w s
  rw [reserved_iff_not_wf, ← exists_decodeFields_ok_iff, ← invalid_iff_not_ok]
  exact ⟨fun ⟨why, h⟩ => ⟨⟨why, h⟩, issueWord_invalid h s⟩, fun h => h.1⟩

/-! ### Words and bytes written out (R70, R73) -/

/-- Settles O4: each word is the encoding of its command. -/
theorem writtenOutWordsDecode : Obligations.WrittenOutWordsDecode :=
  ⟨decode_encode .start, decode_encode (.write 0xA5#8), decode_encode .readAck, decode_encode .readNack,
    decode_encode .stop, decode_encode .status, decode_encode .wakeup, decode_encode (.readreg 0x40#8)⟩

theorem addrByte_eq_shift_or (a7 : BitVec 7) (dir : BitVec 1) :
    addrByte a7 dir = ((a7.setWidth 8 <<< 1) ||| dir.setWidth 8) := by
  rw [addrByte, ← BitVec.setWidth_append_eq_shiftLeft_setWidth_or, BitVec.setWidth_eq]

@[simp] theorem device_addrByte (a7 : BitVec 7) (dir : BitVec 1) : device (addrByte a7 dir) = a7 :=
  BitVec.extractLsb'_append_eq_left

@[simp] theorem direction_addrByte (a7 : BitVec 7) (dir : BitVec 1) : direction (addrByte a7 dir) = dir :=
  BitVec.extractLsb'_append_eq_right

/-- Settles O5: the layout for every address and direction, then the two bytes of the framer. -/
theorem addressByteLayout : Obligations.AddressByteLayout :=
  ⟨fun a7 dir => ⟨addrByte_eq_shift_or a7 dir, device_addrByte a7 dir, direction_addrByte a7 dir⟩,
    fun _ => ⟨rfl, rfl⟩, rfl, rfl⟩

end Sys2Proof.Machine
end

section
/-! The host that issues the framer's primitives itself (R79): it runs in step with the framer, row by row. -/

namespace Sys2Proof.Machine

variable {s u t : State}

/-! ### The commands a framer row stands for -/

/-- The command with which a host issues a primitive itself. -/
def hostCommand : Prim → Instr
  | .start => .start
  | .write v => .write v
  | .read true => .readAck
  | .read false => .readNack

theorem exec_hostCommand (op : Prim) (s : State) : exec (hostCommand op) s = hostPrimitive op s := by
  match op with
  | .start => rfl
  | .write _ => rfl
  | .read true => rfl
  | .read false => rfl

/-- A row as the host runs it: the command, and the status it must return. -/
def hostRow (r : FramerRow) : Instr × Byte := (hostCommand r.op, r.expected)

/-- The host's expansions are the rows of the framer's tables (R79, R112, R113). -/
theorem wakeupByHost_eq_rows (c : Cfg) : wakeupByHost c = (wakeupRows c).map hostRow := rfl

theorem readregByHost_eq_rows (c : Cfg) (r : Byte) : readregByHost c r = (readregRows c r).map hostRow := rfl

theorem exec_wakeup_of_not_busy (hb : s.busy = false) :
    exec .wakeup s = runRows (wakeupRows s.cfg) (accept .wakeup s) := by
  simp [exec, execWakeup, whenReady, hb, runFramer, framerRows]

theorem exec_readreg_of_not_busy (hb : s.busy = false) (r : Byte) :
    exec (.readreg r) s = runRows (readregRows s.cfg r) (accept .readreg { s with freg := r }) := by
  simp [exec, execReadreg, whenReady, hb, runFramer, framerRows]

/-! ### One command of the host's sequence -/

/-- The state after a host's primitive has completed and responded (R91). -/
def hostCompleted (op : Prim) (st b : Byte) (rest : List BusAnswer) (s : State) : State :=
  deliver (responseWord st (primByte op (complete op st b { issue op s with env := rest })))
    (complete op st b { issue op s with env := rest })

theorem hostCompleted_busy (hb : s.busy = false) (op : Prim) (st b : Byte) (rest : List BusAnswer) :
    (hostCompleted op st b rest s).busy = false :=
  (not_busy _).2 ⟨rfl, fseq_of_not_busy s hb⟩

theorem holdState_busy (s : State) : (holdState s).busy = s.busy := by
  obtain ⟨env, h, -⟩ := holdState_eq s
  rw [h]
  rfl

theorem exec_stop_of_not_busy (hb : s.busy = false) : exec .stop s = .next (stopBus s) := by
  simp [exec, execStop, whenReady, hb]

/-- The host's three ways on after a command that answers a next state (R79). -/
theorem hostSequence_cons {i : Instr} {e : Byte} {cs : List (Instr × Byte)} (h : exec i s = .next t) :
    hostSequence ((i, e) :: cs) s =
      if t.busy then .next t else if t.status = .code e then hostSequence cs t else exec .stop t := by
  simp only [hostSequence, h]

section Row

variable {r : FramerRow} {cs : List (Instr × Byte)} {st b : Byte} {rest : List BusAnswer}

theorem hostSequence_completed (hb : s.busy = false) (hr : refusalOf r.op s.phase = none)
    (h : s.env = .done st b :: rest) :
    hostSequence (hostRow r :: cs) s =
      if st = r.expected then hostSequence cs (hostCompleted r.op st b rest s)
      else .next (stopBus (hostCompleted r.op st b rest s)) := by
  have hexec : exec (hostCommand r.op) s = .next (hostCompleted r.op st b rest s) :=
    (exec_hostCommand r.op s).trans (hostPrimitive_done hb hr h)
  have hbusy := hostCompleted_busy hb r.op st b rest
  have hstatus : (hostCompleted r.op st b rest s).status = .code st := rfl
  rw [hostRow, hostSequence_cons hexec, exec_stop_of_not_busy hbusy]
  simp only [hbusy, hstatus, Bool.false_eq_true, if_false, StatusReg.code.injEq]

theorem hostSequence_held (hb : s.busy = false) (hr : refusalOf r.op s.phase = none) (h : notAnswered s) :
    hostSequence (hostRow r :: cs) s = .next (holdState (issue r.op s)) := by
  have hexec : exec (hostCommand r.op) s = .next (holdState (issue r.op s)) :=
    (exec_hostCommand r.op s).trans (hostPrimitive_held hb hr h)
  have hbusy : (holdState (issue r.op s)).busy = true := (holdState_busy _).trans (issue_busy s r.op)
  rw [hostRow, hostSequence_cons hexec, if_pos hbusy]

end Row

/-! ### The host in step with the framer -/

/-- A host that started from `s` and stands at `u`, beside a framer at `t`: they agree on what the bus sees, and
the host has left the sink and the framer's own registers as they were in `s`. -/
structure InStep (s u t : State) : Prop where
  cfg : u.cfg = t.cfg
  bus : u.bus = t.bus
  phase : u.phase = t.phase
  status : u.status = t.status
  data : u.data = t.data
  done : u.done = t.done
  inflight : u.inflight = t.inflight
  env : u.env = t.env
  sink : u.sink = s.sink
  ferr : u.ferr = s.ferr
  fbyte : u.fbyte = s.fbyte
  fstep : u.fstep = s.fstep

namespace InStep

theorem refl (s : State) : InStep s s s :=
  ⟨rfl, rfl, rfl, rfl, rfl, rfl, rfl, rfl, rfl, rfl, rfl, rfl⟩

theorem notAnswered (h : InStep s u t) (hn : notAnswered t) : notAnswered u :=
  fun st b rest => h.env ▸ hn st b rest

theorem issue (h : InStep s u t) (op : Prim) : InStep s (issue op u) (issue op t) :=
  { h with
    data := congrArg (dataAtIssue op) h.data
    done := rfl
    inflight := rfl }

theorem holdState (h : InStep s u t) : InStep s (holdState u) (holdState t) := by
  unfold Machine.holdState
  rw [h.env]
  split
  · exact { h with env := rfl }
  · exact h

theorem answersLeft (h : InStep s u t) (rest : List BusAnswer) :
    InStep s { u with env := rest } { t with env := rest } :=
  { h with env := rfl }

theorem complete (h : InStep s u t) (op : Prim) (st b : Byte) :
    InStep s (complete op st b u) (complete op st b t) where
  cfg := h.cfg
  bus := by rw [complete_bus, complete_bus, h.bus, h.cfg, h.phase]
  phase := by rw [complete_phase, complete_phase, h.cfg, h.phase]
  status := rfl
  data := congrArg (dataAtCompletion op b) h.data
  done := rfl
  inflight := rfl
  env := h.env
  sink := (complete_sink u op st b).trans h.sink
  ferr := h.ferr
  fbyte := h.fbyte
  fstep := h.fstep

/-- The host takes a response where the framer goes on. -/
theorem deliver (h : InStep s u t) (w : Word16) : InStep s (deliver w u) t :=
  { h with
    bus := (deliver_bus u w).trans h.bus
    sink := (deliver_sink u w).trans h.sink }

theorem hostCompleted (h : InStep s u t) (op : Prim) (st b : Byte) (rest : List BusAnswer) :
    InStep s (hostCompleted op st b rest u)
      (Machine.complete op st b { Machine.issue op t with env := rest }) :=
  (((h.issue op).answersLeft rest).complete op st b).deliver _

/-- The host's STOP and the framer's stop step. -/
theorem stop (h : InStep s u t) : InStep s (stopBus u) (finish t) := by
  have hbus := finish_bus t
  obtain ⟨tr, hfinish, -⟩ := finish_spec t
  rw [hfinish] at hbus ⊢
  exact { h with
    bus := by rw [hbus, stopBus_bus, h.bus, h.phase]
    phase := rfl
    status := rfl
    sink := (stopBus_sink u).trans h.sink }

/-- The framer's own registers do not take part. -/
theorem framer (h : InStep s u t) (q : FSeq) (k : Nat) (r : Byte) (e : ErrorCode) (b : Byte) :
    InStep s u { t with fseq := q, fstep := k, freg := r, ferr := e, fbyte := b } :=
  { h with }

end InStep

/-- The host that was given `commands` in `s`, while the framer stands at `t` with `rows` still to run: it has
these rows left, is not held, and is in step with the framer. -/
def HostAlongside (commands : List (Instr × Byte)) (s : State) (rows : List FramerRow) (t : State) : Prop :=
  ∃ u, u.busy = false ∧ InStep s u t ∧ hostSequence commands s = hostSequence (rows.map hostRow) u

/-- Where the framer answers, the host that issues the rows' commands does, in step with it (R79). -/
theorem hostSequence_of_runRows {rows : List FramerRow} {s t v : State} (hb : s.busy = false) (h : InStep s s t)
    (hrun : runRows rows t = .next v) :
    ∃ u, hostSequence (rows.map hostRow) s = .next u ∧ InStep s u v := by
  refine runRows_induction (P := HostAlongside (rows.map hostRow) s)
    (Q := fun v => ∃ u, hostSequence (rows.map hostRow) s = .next u ∧ InStep s u v)
    ?done ?held ?fail ?pass rows t v ⟨s, hb, h, rfl⟩ hrun
  case done =>
    rintro t ⟨u, hb, h, hseq⟩
    exact ⟨_, hseq.trans (exec_stop_of_not_busy hb), h.stop⟩
  case held =>
    rintro r rs t ⟨u, hb, h, hseq⟩ hr hn
    have hheld := hostSequence_held (cs := rs.map hostRow) hb (h.phase ▸ hr) (h.notAnswered hn)
    exact ⟨_, hseq.trans hheld, (h.issue r.op).holdState⟩
  case fail =>
    rintro r rs t st b rest ⟨u, hb, h, hseq⟩ hr henv hne
    have hfail := hostSequence_completed (cs := rs.map hostRow) hb (h.phase ▸ hr) (h.env.trans henv)
    rw [if_neg hne] at hfail
    exact ⟨_, hseq.trans hfail, ((h.hostCompleted r.op st b rest).framer ..).stop⟩
  case pass =>
    rintro r rs t b rest ⟨u, hb, h, hseq⟩ hr henv
    have hpass := hostSequence_completed (cs := rs.map hostRow) hb (h.phase ▸ hr) (h.env.trans henv)
    rw [if_pos rfl] at hpass
    exact ⟨_, hostCompleted_busy hb .., (h.hostCompleted r.op r.expected b rest).framer .., hseq.trans hpass⟩

/-- Settles O34: the host's commands are the rows the accepted framer command runs. -/
theorem framerEqualsHostIssuedPrimitives : Obligations.FramerEqualsHostIssuedPrimitives := by
  intro s t i commands hi hb _ hexec
  have hrows : ∃ rows v, commands = rows.map hostRow ∧ InStep s s v ∧ runRows rows v = .next t := by
    obtain ⟨rfl, rfl⟩ | ⟨r, rfl, rfl⟩ := hi
    · rw [exec_wakeup_of_not_busy hb] at hexec
      exact ⟨_, _, wakeupByHost_eq_rows s.cfg, (InStep.refl s).framer .., hexec⟩
    · rw [exec_readreg_of_not_busy hb] at hexec
      exact ⟨_, _, readregByHost_eq_rows s.cfg r, (InStep.refl s).framer .., hexec⟩
  obtain ⟨rows, v, rfl, h, hrun⟩ := hrows
  obtain ⟨u, hu, hut⟩ := hostSequence_of_runRows hb h hrun
  exact ⟨u, hu, hut.bus, hut.phase, hut.status, hut.data, hut.done, hut.inflight, hut.env, hut.sink, hut.ferr,
    hut.fbyte, hut.fstep⟩

end Sys2Proof.Machine
end

section
/-! The host's commands (40_primitives.md): refused while BUSY = 1 (R90), run exactly where admitted (R97), their
next states on a bus that completes (R99 to R104), and what a held one leaves alone (R92). -/

namespace Sys2Proof.Machine

variable {s t : State} {op : Prim}

/-! ### BUSY (R90) -/

/-- BUSY is not both 0 and 1. -/
theorem absurd_busy {p : Prop} (h0 : s.busy = false) (h1 : s.busy = true) : p :=
  absurd (h0.symm.trans h1) Bool.false_ne_true

theorem whenReady_busy (hb : s.busy = true) (k : Result) : whenReady s k = .refused .busy := by
  simp [whenReady, hb]

theorem exec_busy (hb : s.busy = true) (i : Instr) : exec i s = .refused .busy := by
  cases i <;> exact whenReady_busy hb _

/-- Settles O9: every command is issued through `whenReady`. -/
theorem busyRefusesEveryCommand : Obligations.BusyRefusesEveryCommand := fun _ i hb => exec_busy hb i

/-- Settles O8: the request waits, so the step is the machine's own move. -/
theorem hostRequestWaitsWhileBusy : Obligations.HostRequestWaitsWhileBusy := fun _ _ _ => step_waits

/-! ### A primitive on a completing bus (R91) -/

/-- The byte of the response is the byte received, 0x00 where there is none (R71). -/
theorem primByte_complete (op : Prim) (st b : Byte) (s : State) :
    primByte op (complete op st b s) = dataAtCompletion op b 0x00#8 := by
  cases op <;> rfl

/-- The next state of a primitive issued in the phase `p` (R91, R93). -/
theorem exec_primitive_done {p : Phase} {st b : Byte} {rest : List BusAnswer} (hb : s.busy = false)
    (hp : s.phase = p) (hr : refusalOf op p = none) (h : s.env = .done st b :: rest) :
    exec (hostCommand op) s = .next { s with
      data := dataAtCompletion op b (dataAtIssue op s.data)
      done := true
      status := .code st
      phase := nextPhase s.cfg op p
      rsp := responseWord st (dataAtCompletion op b 0x00#8)
      env := rest
      trace := s.trace ++ [.bus (eventOf s.cfg p st b op),
        .response (responseWord st (dataAtCompletion op b 0x00#8))] } := by
  subst hp
  rw [exec_hostCommand, hostPrimitive_done hb hr h, primByte_complete]
  simp [deliver, complete, record, issue, inflight_of_not_busy s hb]

/-- Settles O10: START is admitted in every phase. -/
theorem startCompletes : Obligations.StartCompletes := fun _ _ _ _ hb henv =>
  exec_primitive_done (op := .start) hb rfl rfl henv

/-- Settles O11: the phase of the issue decides whether the byte is an address byte (R100). -/
theorem writeCompletes : Obligations.WriteCompletes := fun _ v _ _ _ hb henv =>
  ⟨fun hp => exec_primitive_done (op := .write v) hb hp rfl henv,
    fun hp => exec_primitive_done (op := .write v) hb hp rfl henv⟩

/-- Settles O12: READ_ACK is admitted in MR and leaves the phase. -/
theorem readAckCompletes : Obligations.ReadAckCompletes := fun _ _ _ _ hb hp henv =>
  exec_primitive_done (op := .read true) hb hp rfl henv

/-- Settles O13: READ_NACK is admitted in MR and ends the read. -/
theorem readNackCompletes : Obligations.ReadNackCompletes := fun _ _ _ _ hb hp henv =>
  exec_primitive_done (op := .read false) hb hp rfl henv

/-! ### STOP and STATUS (R103, R104) -/

/-- Settles O14: STOP is one update of the state. -/
theorem stopCompletes : Obligations.StopCompletes := fun _ hb => exec_stop_of_not_busy hb

theorem exec_status_of_not_busy (hb : s.busy = false) :
    exec .status s = .next (respondStatus 0x00#8 s) := by
  simp [exec, execStatus, whenReady, hb]

theorem respondStatus_phase (byte : Byte) (s : State) : (respondStatus byte s).phase = s.phase := by
  unfold respondStatus readStatus
  split <;> rfl

theorem respondStatus_busy (byte : Byte) (s : State) : (respondStatus byte s).busy = s.busy := by
  unfold respondStatus readStatus
  split <;> rfl

/-- Settles O15: the byte is the register's code, or the next free value. -/
theorem statusCompletes : Obligations.StatusCompletes := by
  intro s hb
  refine ⟨fun st h => exec_status_code hb h, fun h => ⟨Config.freeByte s.draws, ?_⟩⟩
  rw [exec_status_of_not_busy hb, respondStatus, readStatus_unspecified h]
  rfl

/-! ### Where a primitive runs (R93, R97) -/

theorem exec_primitive_refused {q : Refusal} (hb : s.busy = false) (hr : refusalOf op s.phase = some q) :
    exec (hostCommand op) s = .refused q :=
  (exec_hostCommand op s).trans (hostPrimitive_refused hb hr)

theorem exists_refused_of_not_admitted (hb : s.busy = false) (hr : refusalOf op s.phase ≠ none) :
    ∃ q, exec (hostCommand op) s = .refused q := by
  obtain ⟨q, hq⟩ := Option.ne_none_iff_exists'.1 hr
  exact ⟨q, exec_primitive_refused hb hq⟩

/-- The phase after a completed primitive is that of R93's table, for every status answered. -/
theorem exists_next_phase {p q : Phase} {st b : Byte} {rest : List BusAnswer} (hb : s.busy = false)
    (h : s.env = .done st b :: rest) (hp : s.phase = p) (hr : refusalOf op p = none)
    (hq : nextPhase s.cfg op p = q) : ∃ t, exec (hostCommand op) s = .next t ∧ t.phase = q :=
  ⟨_, exec_primitive_done hb hp hr h, hq⟩

theorem dirWrite_ne_dirRead {c : Cfg} (h : c.valid = true) : c.dirWrite ≠ c.dirRead := by
  simp only [Cfg.valid, Cfg.directionsDistinct, Bool.and_eq_true, bne_iff_ne] at h
  exact h.2

/-- Settles O16: the admitted cells of R93's table are `nextPhase`, the others are refused. -/
theorem phaseTransitionsFollowTable : Obligations.PhaseTransitionsFollowTable := by
  intro s st b rest hb hv henv
  have hnext {op : Prim} {p q : Phase} := exists_next_phase (op := op) (p := p) (q := q) hb henv
  have hrefused {op : Prim} := exists_refused_of_not_admitted (op := op) hb
  refine ⟨hnext (op := .start) rfl rfl rfl, ?addrW, ?addrR, fun v hp => hnext (op := .write v) hp rfl rfl,
    ?writeRefused, fun hp => hnext (op := .read true) hp rfl rfl, fun hp => hnext (op := .read false) hp rfl rfl,
    ?readRefused, ⟨_, exec_stop_of_not_busy hb, rfl⟩, _, exec_status_of_not_busy hb, respondStatus_phase _ s⟩
  case addrW =>
    intro v hp hdir
    have hne : direction v ≠ s.cfg.dirRead := hdir ▸ dirWrite_ne_dirRead hv
    exact hnext (op := .write v) hp rfl (if_neg hne)
  case addrR => exact fun v hp hdir => hnext (op := .write v) hp rfl (if_pos hdir)
  case writeRefused =>
    intro v hp
    refine hrefused (op := .write v) ?_
    obtain hp | hp | hp := hp <;> simp [hp]
  case readRefused =>
    intro hp
    exact ⟨hrefused (op := .read true) (by simpa using hp),
      hrefused (op := .read false) (by simpa using hp)⟩

/-! ### The frame of a primitive (R91, R92) -/

/-- A primitive that answers has completed on one answer, or is held with at most one `wait` used up. -/
theorem exec_primitive_cases (h : exec (hostCommand op) s = .next t) : s.busy = false ∧
    ((∃ st b rest, s.env = .done st b :: rest ∧ t = hostCompleted op st b rest s) ∨
      ∃ env, (env = s.env ∨ s.env = .wait :: env) ∧ t = { issue op s with env := env }) := by
  rw [exec_hostCommand] at h
  obtain ⟨hb, -, hdone | ⟨-, rfl⟩⟩ := hostPrimitive_cases h
  · exact ⟨hb, .inl hdone⟩
  · obtain ⟨env, heq, henv⟩ := holdState_eq (issue op s)
    exact ⟨hb, .inr ⟨env, henv, heq⟩⟩

theorem hostCompleted_sink (op : Prim) (st b : Byte) (rest : List BusAnswer) (s : State) :
    (hostCompleted op st b rest s).sink = s.sink :=
  (deliver_sink _ _).trans (complete_sink _ op st b)

theorem hostCompleted_bus (op : Prim) (st b : Byte) (rest : List BusAnswer) (s : State) :
    (hostCompleted op st b rest s).bus = s.bus ++ [eventOf s.cfg s.phase st b op] :=
  (deliver_bus _ _).trans (complete_bus _ op st b)

theorem hostCompleted_responses (op : Prim) (st b : Byte) (rest : List BusAnswer) (s : State) :
    (hostCompleted op st b rest s).responses = s.responses ++ [(hostCompleted op st b rest s).rsp] :=
  (deliver_responses _ _).trans (congrArg (· ++ _) (complete_responses _ op st b))

/-- Two primitives are issued by two commands. -/
theorem hostCommand_injective : Function.Injective hostCommand := by
  rintro (_ | _ | (_ | _)) (_ | _ | (_ | _)) h <;> simp_all [hostCommand]

/-- Settles O20: a completed primitive is not busy, a held one is its issue. -/
theorem blockingPrimitiveFrame : Obligations.BlockingPrimitiveFrame := by
  intro s t i hi h
  have hop : ∃ op, hostCommand op = i := by
    obtain rfl | ⟨v, rfl⟩ | rfl | rfl := hi
    exacts [⟨.start, rfl⟩, ⟨.write v, rfl⟩, ⟨.read true, rfl⟩, ⟨.read false, rfl⟩]
  obtain ⟨op, rfl⟩ := hop
  have hop {op' : Prim} (h : hostCommand op = hostCommand op') : op = op' := hostCommand_injective h
  obtain ⟨hb, ⟨st, b, rest, henv, rfl⟩ | ⟨env, henv, rfl⟩⟩ := exec_primitive_cases h
  case inl =>
    have hbusy := hostCompleted_busy hb op st b rest
    refine ⟨rfl, rfl, rfl, rfl, rfl, hostCompleted_sink .., rfl, rfl, rfl, rfl, ?start, ?write,
      fun _ => ⟨rfl, ⟨st, b, henv⟩, _, hostCompleted_bus .., hostCompleted_responses ..⟩, absurd_busy hbusy⟩
    case start =>
      intro h
      obtain rfl := hop (op' := .start) h
      rfl
    case write =>
      intro v h
      obtain rfl := hop (op' := .write v) h
      rfl
  case inr =>
    have hbusy : State.busy { issue op s with env := env } = true := issue_busy s op
    refine ⟨rfl, rfl, rfl, rfl, rfl, rfl, rfl, rfl, rfl, rfl, ?start, ?write,
      fun h => absurd_busy h hbusy, fun _ => ⟨rfl, rfl, rfl, rfl, rfl, henv,
        fun h => congrArg some (hop (op' := .start) h), fun v h => congrArg some (hop (op' := .write v) h),
        ?readAck, ?readNack⟩⟩
    case start =>
      intro h
      obtain rfl := hop (op' := .start) h
      rfl
    case write =>
      intro v h
      obtain rfl := hop (op' := .write v) h
      rfl
    case readAck =>
      intro h
      obtain rfl := hop (op' := .read true) h
      exact ⟨rfl, rfl⟩
    case readNack =>
      intro h
      obtain rfl := hop (op' := .read false) h
      exact ⟨rfl, rfl⟩

end Sys2Proof.Machine
end

section
/-! Commands that always answer: a framer's rows are each admitted in the phase they are reached in (R112, R113),
so a framer neither stops nor is refused (R96, R111), and a primitive is refused only where R97 says so. -/

namespace Sys2Proof.Machine

variable {s t : State} {op : Prim}

/-! ### A question to the bus is always answered (R91, R92) -/

theorem hostPrimitive_admitted (hb : s.busy = false) (hr : refusalOf op s.phase = none) :
    hostPrimitive op s = awaitForHost op (issue op s) := by
  simp [hostPrimitive, whenReady, hb, hr]

theorem runRows_admitted {r : FramerRow} (hr : refusalOf r.op s.phase = none) (rs : List FramerRow) :
    runRows (r :: rs) s = checkRow r (runRows rs) (askBus r.op (issue r.op s)) := by
  simp [runRows, hr]

theorem awaitForHost_answers (op : Prim) (s : State) : ∃ t, awaitForHost op s = .next t := by
  obtain ⟨st, b, rest, h, -⟩ | ⟨h, -⟩ := askBus_cases op s
  · exact ⟨_, awaitForHost_done h⟩
  · exact ⟨_, awaitForHost_held h⟩

/-- A checked step answers if what follows it does, in the phase it leads to. -/
theorem checkRow_answers {r : FramerRow} {k : State → Result}
    (hk : ∀ v, v.cfg = s.cfg → v.phase = nextPhase s.cfg r.op s.phase → ∃ t, k v = .next t) :
    ∃ t, checkRow r k (askBus r.op s) = .next t := by
  obtain ⟨st, b, rest, -, ha⟩ | ⟨-, ha⟩ := askBus_cases r.op s
  · by_cases hst : st = r.expected
    · simpa [ha, checkRow, hst] using hk (passed r (complete r.op r.expected b { s with env := rest })) rfl rfl
    · simp [ha, checkRow, hst]
  · simp [ha, checkRow]

/-! ### The framer's rows are admitted (R96, R97) -/

/-- Each row is admitted in the phase that the rows before it lead to from `p` (R93, R97). -/
def AdmittedRows (c : Cfg) : List FramerRow → Phase → Prop
  | [], _ => True
  | r :: rs, p => refusalOf r.op p = none ∧ AdmittedRows c rs (nextPhase c r.op p)

theorem runRows_answers {rows : List FramerRow} (h : AdmittedRows s.cfg rows s.phase) :
    ∃ t, runRows rows s = .next t := by
  induction rows generalizing s with
  | nil => exact ⟨finish s, rfl⟩
  | cons r rs ih =>
    obtain ⟨hr, hrs⟩ := h
    rw [runRows_admitted hr]
    exact checkRow_answers fun v hcfg hphase => ih (by rwa [hcfg, hphase])

theorem nextPhase_start (c : Cfg) (p : Phase) : nextPhase c .start p = .addr := rfl

theorem nextPhase_write_mt (c : Cfg) (v : Byte) : nextPhase c (.write v) .mt = .mt := rfl

section Directions

variable {c : Cfg} (hv : c.valid = true)

include hv

theorem direction_slaW_ne_dirRead : direction c.slaW ≠ c.dirRead := by
  rw [Cfg.slaW, direction_addrByte]
  exact dirWrite_ne_dirRead hv

/-- The address byte SLA_W opens a write session (R73, R93). -/
theorem nextPhase_slaW : nextPhase c (.write c.slaW) .addr = .mt :=
  if_neg (direction_slaW_ne_dirRead hv)

end Directions

theorem direction_slaR (c : Cfg) : direction c.slaR = c.dirRead := direction_addrByte _ _

/-- The address byte SLA_R opens a read session (R73, R93). -/
theorem nextPhase_slaR (c : Cfg) : nextPhase c (.write c.slaR) .addr = .mr := if_pos (direction_slaR c)

/-- Settles O32: the two address bytes have the direction of their expected code. -/
theorem framerExpectsNominalStatuses : Obligations.FramerExpectsNominalStatuses := by
  intro c r hv
  constructor
  · simp [wakeupRows, nominalStatus, direction_slaW_ne_dirRead hv]
  · simp [readregRows, nominalStatus, direction_slaW_ne_dirRead hv, direction_slaR]

/-- From the phase of its step on, the framer's rows are admitted. -/
theorem admittedRows_rowsFromStep (hv : s.cfg.valid = true) (hp : framerPhase s.fseq s.fstep s.phase = true) :
    AdmittedRows s.cfg (rowsFromStep s) s.phase := by
  cases hk : s.fstep with
  | zero => simp [rowsFromStep, hk, AdmittedRows]
  | succ k =>
    rw [rowsFromStep_eq_drop hk]
    rw [hk] at hp
    cases hq : s.fseq <;> simp only [hq] at hp
    case none => simp [framerRows, hq, AdmittedRows]
    case wakeup =>
      rcases k with _ | _ | _ | _ | k <;> simp [framerPhase] at hp
      all_goals simp [framerRows, hq, hp, wakeupRows, AdmittedRows, nextPhase_start,
        nextPhase_write_mt, nextPhase_slaW hv]
    case readreg =>
      rcases k with _ | _ | _ | _ | _ | _ | k <;> simp [framerPhase] at hp
      all_goals simp [framerRows, hq, hp, readregRows, AdmittedRows, nextPhase_start,
        nextPhase_write_mt, nextPhase_slaW hv, nextPhase_slaR]

/-! ### Commands and held commands answer -/

theorem runFramer_accept_answers (hv : s.cfg.valid = true) (q : FSeq) :
    ∃ t, runFramer (accept q s) = .next t :=
  runRows_answers (admittedRows_rowsFromStep (s := accept q s) hv (by cases q <;> rfl))

theorem exec_primitive_answers_iff (hb : s.busy = false) (op : Prim) :
    (∃ t, exec (hostCommand op) s = .next t) ↔ refusalOf op s.phase = none := by
  cases hr : refusalOf op s.phase with
  | some q => simp [exec_primitive_refused hb hr]
  | none => simpa [exec_hostCommand, hostPrimitive_admitted hb hr] using awaitForHost_answers op (issue op s)

/-- With BUSY = 0 a command answers exactly if it has no refusal in its phase (R97). -/
theorem exec_answers_iff (hb : s.busy = false) (hv : s.cfg.valid = true) (i : Instr) :
    (∃ t, exec i s = .next t) ↔ commandRefusal i s.phase = none := by
  cases i with
  | start => exact exec_primitive_answers_iff hb .start
  | write v => exact exec_primitive_answers_iff hb (.write v)
  | readAck => exact exec_primitive_answers_iff hb (.read true)
  | readNack => exact exec_primitive_answers_iff hb (.read false)
  | stop => exact iff_of_true ⟨_, exec_stop_of_not_busy hb⟩ rfl
  | status => exact iff_of_true ⟨_, exec_status_of_not_busy hb⟩ rfl
  | wakeup =>
    rw [exec_wakeup_of_not_busy hb]
    exact iff_of_true (runFramer_accept_answers hv .wakeup) rfl
  | readreg r =>
    rw [exec_readreg_of_not_busy hb]
    exact iff_of_true (runFramer_accept_answers (s := { s with freg := r }) hv .readreg) rfl

theorem commandRefusal_eq_none_iff {i : Instr} {p : Phase} : commandRefusal i p = none ↔
    (∀ v, i = .write v → p = .addr ∨ p = .mt) ∧ (i = .readAck ∨ i = .readNack → p = .mr) := by
  cases i <;> simp [commandRefusal]

/-- Settles O17: a command is refused where its primitive is, under the name `refusalOf` gives. -/
theorem commandsRunExactlyWhereAdmitted : Obligations.CommandsRunExactlyWhereAdmitted := by
  intro s hb hv
  have hrefused {op : Prim} {q : Refusal} := exec_primitive_refused (op := op) (q := q) hb
  refine ⟨fun i => (exec_answers_iff hb hv i).trans commandRefusal_eq_none_iff, ?writeIdle, ?writeReading,
    ?read⟩
  case writeIdle =>
    intro v hp
    exact hrefused (op := .write v) (by simp [hp, refusalOf])
  case writeReading =>
    intro v hp
    refine hrefused (op := .write v) ?_
    obtain hp | hp := hp <;> simp [hp, refusalOf]
  case read =>
    intro i hi
    obtain ⟨ack, rfl⟩ : ∃ ack, i = hostCommand (.read ack) := by
      obtain rfl | rfl := hi
      exacts [⟨true, rfl⟩, ⟨false, rfl⟩]
    refine ⟨fun hp => hrefused ?_, fun hp => hrefused (by simp [hp, refusalOf])⟩
    obtain hp | hp | hp := hp <;> simp [hp, refusalOf]

theorem resume_answers (hs : s.Inv) (hv : s.cfg.valid = true) (hb : s.busy = true) :
    ∃ t, resume s = .next t := by
  by_cases hq : s.fseq = .none
  · obtain ⟨op, hop⟩ : ∃ op, s.inflight = some op := by
      simpa [State.busy, hq, Option.isSome_iff_exists] using hb
    exact resume_host hop hq ▸ awaitForHost_answers op s
  · obtain ⟨⟨r, rs, hrow, hop⟩, hphase, -⟩ := hs.framer hq
    have hrows := admittedRows_rowsFromStep hv hphase
    rw [hrow] at hrows
    obtain ⟨-, hrs⟩ := hrows
    rw [resume_framer hop hq, resumeFramer_row hrow]
    exact checkRow_answers fun v hcfg hp => runRows_answers (by rwa [hcfg, hp])

/-- Settles O42: the rows left to a held framer are admitted, and taking its response is no obstacle. -/
theorem busyBlockNeverFaultsOrRefuses : Obligations.BusyBlockNeverFaultsOrRefuses := by
  intro s hs hv hb
  obtain ⟨t, ht⟩ := resume_answers hs hv hb
  exact ⟨pollTake t, by rw [advance_busy hb, ht, thenNext]⟩

end Sys2Proof.Machine
end

section
/-! A held command: a stalled block stays as it is until a reset (R90, R92, R180), and a command that the bus
keeps waiting ends as it would have ended had the answers come at once (R91, R111). -/

namespace Sys2Proof.Machine

variable {s t u : State} {op : Prim}

/-! ### A stalled block (R92) -/

theorem busy_of_inflight (h : s.inflight = some op) : s.busy = true := by
  simp [State.busy, h]

theorem resume_stalled {rest : List BusAnswer} (hs : s.Inv) (hop : s.inflight = some op)
    (henv : s.env = .stall :: rest) : resume s = .next s := by
  have hn : notAnswered s := by simp [notAnswered, henv]
  have hheld : holdState s = s := holdState_of_stall henv
  by_cases hq : s.fseq = .none
  · rw [resume_host hop hq, awaitForHost_held hn, hheld]
  · obtain ⟨⟨r, rs, hrow, hr⟩, -⟩ := hs.framer hq
    rw [resume_framer hr hq, resumeFramer_row hrow, askBus_held hn, checkRow, hheld]

theorem advance_stalled {rest : List BusAnswer} (hs : s.Inv) (hop : s.inflight = some op)
    (henv : s.env = .stall :: rest) : advance s = .next s := by
  have hb := busy_of_inflight hop
  rw [advance_busy hb, resume_stalled hs hop henv, thenNext, pollTake_busy hb]

/-- A write is never served while BUSY = 1: CMD takes no command, and nothing else is writable (R40, R90). -/
theorem serveWrite_busy (hb : s.busy = true) (off : Nat) (v : Word16) :
    ∃ q, serveWrite off v s = .refused q := by
  unfold serveWrite
  split
  case h_1 =>
    unfold issueWord
    split
    · exact ⟨_, exec_busy hb _⟩
    · exact ⟨_, rfl⟩
  all_goals exact ⟨_, rfl⟩

theorem serveRead_answers {off : Nat} (h1 : 1 ≤ off) (h5 : off ≤ 5) (s : State) :
    ∃ t, serveRead off s = .next t := by
  interval_cases off <;> exact ⟨_, rfl⟩

/-- What an observer's steps leave alone: all but the reads recorded, the free values they used up and the
requests served. -/
def OnlyObserved (s t : State) : Prop :=
  { t with trace := s.trace, draws := s.draws, requests := s.requests } = s ∧
    t.bus = s.bus ∧ t.sink = s.sink ∧ t.responses = s.responses

theorem onlyObserved_requests (s : State) (rs : List Request) : OnlyObserved s { s with requests := rs } :=
  ⟨rfl, rfl, rfl, rfl⟩

theorem onlyObserved_read {off : Nat} {rs : List Request}
    (h : serveRead off { s with requests := rs } = .next t) : OnlyObserved s t := by
  obtain ⟨hbus, hsink, hresponses, -⟩ := registerReadsHaveNoSideEffect _ _ off h
  obtain ⟨v, n, rfl⟩ := serveRead_state h
  exact ⟨rfl, hbus, hsink, hresponses⟩

/-- Settles O18: the block's own move leaves a stalled state, and of the accesses only a bench's are served. -/
theorem stalledBlockIsHeldForEver : Obligations.StalledBlockIsHeldForEver := by
  intro s op rest hs hop henv
  have hb := busy_of_inflight hop
  have hadvance : advance s = .next s := advance_stalled hs hop henv
  have hidle (more : List Request) :
      advance { s with requests := more } = .next { s with requests := more } :=
    advance_stalled (hs.frame rfl) hop henv
  refine ⟨hs.doneLow (by simp [hop]), ?alone, ?host, exec_busy hb, ?idle, ?read, ?write, ?frame, ?reset⟩
  case alone => exact fun hreq => (step_no_request hreq).trans hadvance
  case host => exact fun a more hreq => (step_waits hb hreq).trans hadvance
  case idle => exact fun more hreq => (step_bench hreq).trans (hidle more)
  case read => exact fun off more hreq h1 h5 => step_bench hreq ▸ serveRead_answers h1 h5 _
  case write =>
    exact fun off v more hreq => step_bench hreq ▸ serveWrite_busy (s := { s with requests := more }) hb off v
  case reset => exact fun more hreq => ⟨_, step_bench hreq, rfl, rfl⟩
  case frame =>
    intro t ht hreset
    obtain hst | ⟨⟨who, a⟩, more, hreq, hwaits, hst⟩ := step_cases s
    · obtain rfl := Host.Outcome.next.inj (hadvance.symm.trans (hst.symm.trans ht))
      exact onlyObserved_requests s s.requests
    · cases who with
      | host => simp [Request.waits, hb] at hwaits
      | bench =>
        rw [hst] at ht
        cases a with
        | write off v =>
          obtain ⟨q, hq⟩ := serveWrite_busy (s := { s with requests := more }) hb off v
          cases hq.symm.trans ht
        | read off => exact onlyObserved_read ht
        | reset => exact absurd hreq (hreset more)
        | idle =>
          obtain rfl := Host.Outcome.next.inj ((hidle more).symm.trans ht)
          exact onlyObserved_requests s more

/-! ### A waiting command (R91, R92, R111) -/

/-- The held state `u` of the command `i` issued in `s`: `consumed` are the answers used up, a last `wait` aside,
and going on with any later answers is issuing `i` with these after the consumed ones. -/
def ResumesAs (i : Instr) (s u : State) (consumed : List BusAnswer) : Prop :=
  (s.env = consumed ++ u.env ∨ s.env = consumed ++ .wait :: u.env) ∧
    ∀ more, resume { u with env := more } = exec i { s with env := consumed ++ more }

theorem ResumesAs.of_holdState {i : Instr} {consumed : List BusAnswer} (henv : s.env = consumed ++ u.env)
    (h : ∀ more, resume { u with env := more } = exec i { s with env := consumed ++ more }) :
    ResumesAs i s (holdState u) consumed := by
  obtain ⟨env, hheld, hlast⟩ := holdState_eq u
  rw [hheld, ResumesAs, henv]
  exact ⟨hlast.imp (fun h => by rw [h]) (fun h => by rw [h]), h⟩

/-- A primitive the host is held in has used up no answer. -/
theorem hostPrimitive_resumesAs (h : exec (hostCommand op) s = .next u) (hu : u.busy = true) :
    ResumesAs (hostCommand op) s u [] := by
  rw [exec_hostCommand] at h
  obtain ⟨hb, hr, ⟨st, b, rest, -, rfl⟩ | ⟨-, rfl⟩⟩ := hostPrimitive_cases h
  · exact absurd_busy (hostCompleted_busy hb op st b rest) hu
  · refine .of_holdState rfl fun more => ?_
    rw [exec_hostCommand, List.nil_append, hostPrimitive_admitted (s := { s with env := more }) hb hr]
    exact resume_host rfl (fseq_of_not_busy s hb)

/-- A framer that the command `i` issued in `s` has brought before the rows `rows` on the answers `consumed`,
whatever answers come after them. -/
structure ReachesRows (i : Instr) (s : State) (consumed : List BusAnswer) (rows : List FramerRow)
    (v : State) : Prop where
  rowsLeft : rowsFromStep v = rows
  running : v.fseq ≠ .none
  inflight : v.inflight = none
  answers : s.env = consumed ++ v.env
  replays : ∀ more, exec i { s with env := consumed ++ more } = runRows rows { v with env := more }

namespace ReachesRows

variable {i : Instr} {consumed : List BusAnswer} {r : FramerRow} {rs : List FramerRow} {v : State}

theorem held (h : ReachesRows i s consumed (r :: rs) v) (hr : refusalOf r.op v.phase = none) :
    ResumesAs i s (holdState (issue r.op v)) consumed := by
  refine .of_holdState h.answers fun more => ?_
  rw [h.replays, runRows_admitted (s := { v with env := more }) hr]
  exact (resume_framer (s := { issue r.op v with env := more }) rfl h.running).trans (resumeFramer_row h.rowsLeft)

/-- A matching row moves its answer to the consumed ones. -/
theorem passed {b : Byte} {rest : List BusAnswer} (h : ReachesRows i s consumed (r :: rs) v)
    (hr : refusalOf r.op v.phase = none) (henv : v.env = .done r.expected b :: rest) :
    ReachesRows i s (consumed ++ [.done r.expected b]) rs
      (passed r (complete r.op r.expected b { issue r.op v with env := rest })) where
  rowsLeft := rowsFromStep_passed (s := issue r.op v) h.rowsLeft
  running := h.running
  inflight := rfl
  answers := by simp [h.answers, henv]
  replays more := by
    rw [List.append_assoc, h.replays]
    exact runRows_match (s := { v with env := .done r.expected b :: more }) hr rfl

end ReachesRows

theorem finish_not_busy (h : s.inflight = none) : (finish s).busy = false := by
  obtain ⟨tr, hfinish, -⟩ := finish_spec s
  rw [hfinish]
  exact (not_busy _).2 ⟨h, rfl⟩

theorem runRows_resumesAs {i : Instr} {rows : List FramerRow} {v : State} (hv : ReachesRows i s [] rows v)
    (h : runRows rows v = .next u) (hu : u.busy = true) : ∃ consumed, ResumesAs i s u consumed := by
  refine runRows_induction (P := fun rows v => ∃ consumed, ReachesRows i s consumed rows v)
    (Q := fun u => u.busy = true → ∃ consumed, ResumesAs i s u consumed)
    ?done ?held ?fail ?pass rows v u ⟨[], hv⟩ h hu
  case done => exact fun _ ⟨_, hv⟩ => absurd_busy (finish_not_busy hv.inflight)
  case held => exact fun _ _ _ ⟨consumed, hv⟩ hr _ _ => ⟨consumed, hv.held hr⟩
  case fail => exact fun _ _ _ _ _ _ _ _ _ _ => absurd_busy (finish_not_busy rfl)
  case pass => exact fun _ _ _ _ _ ⟨_, hv⟩ hr henv => ⟨_, hv.passed hr henv⟩

/-- Every held command goes on as if it had been issued with the later answers. -/
theorem exec_held_resumesAs {i : Instr} (hb : s.busy = false) (h : exec i s = .next u) (hu : u.busy = true) :
    ∃ consumed, ResumesAs i s u consumed := by
  cases i with
  | start => exact ⟨[], hostPrimitive_resumesAs (op := .start) h hu⟩
  | write v => exact ⟨[], hostPrimitive_resumesAs (op := .write v) h hu⟩
  | readAck => exact ⟨[], hostPrimitive_resumesAs (op := .read true) h hu⟩
  | readNack => exact ⟨[], hostPrimitive_resumesAs (op := .read false) h hu⟩
  | stop =>
    cases (exec_stop_of_not_busy hb).symm.trans h
    exact absurd_busy hb hu
  | status =>
    cases (exec_status_of_not_busy hb).symm.trans h
    exact absurd_busy ((respondStatus_busy _ s).trans hb) hu
  | wakeup =>
    rw [exec_wakeup_of_not_busy hb] at h
    exact runRows_resumesAs (v := accept .wakeup s) ⟨rfl, nofun, inflight_of_not_busy s hb, rfl, fun more =>
      exec_wakeup_of_not_busy (s := { s with env := more }) hb⟩ h hu
  | readreg r =>
    rw [exec_readreg_of_not_busy hb] at h
    exact runRows_resumesAs (v := accept .readreg { s with freg := r })
      ⟨rfl, nofun, inflight_of_not_busy s hb, rfl, fun more =>
        exec_readreg_of_not_busy (s := { s with env := more }) hb r⟩ h hu

/-- With no request and no polling loop, a busy block's step is its own move. -/
theorem step_eq_resume (hb : s.busy = true) (hreq : s.requests = []) (hpoll : s.poll = none) :
    step s = resume s := by
  rw [step_no_request hreq, advance_busy hb]
  cases hr : resume s with
  | next t => rw [thenNext, pollTake_none ((resume_agents hr).poll.trans hpoll)]
  | fault q => rfl
  | refused q => rfl

/-- Settles O19: the held state goes on as the command would have. -/
theorem waitingDoesNotChangeTheResult : Obligations.WaitingDoesNotChangeTheResult := by
  intro s u i hb hreq hpoll h hu
  obtain ⟨consumed, henv, hresume⟩ := exec_held_resumesAs hb h hu
  obtain ⟨-, hrequests, hpoll'⟩ := exec_agents i s u h
  refine ⟨consumed, henv, fun more => ?_⟩
  rw [← hresume more]
  exact step_eq_resume hu (hrequests.trans hreq) (hpoll'.trans hpoll)

end Sys2Proof.Machine
end

section
/-! A framer's run (R110 to R113): what it has done when it is held in a row (R122) and when it has come to its stop
step (R116, R118, R160), said once for both tables. -/

namespace Sys2Proof.Machine

variable {t a v w : State} {m : List (FramerRow × Byte)} {r : FramerRow} {rs : List FramerRow} {st b : Byte}
  {rest : List BusAnswer}

/-! ### Rows passed, each with the byte of its answer (R111) -/

/-- The answer that passes a row. -/
def rowAnswer (x : FramerRow × Byte) : BusAnswer := .done x.1.expected x.2

/-- The phase after rows passed from the phase `p` (R93). -/
def rowsPhase (c : Cfg) (p : Phase) (m : List (FramerRow × Byte)) : Phase :=
  m.foldl (fun p x => nextPhase c x.1.op p) p

/-- S.DATA after a completed primitive (R21). -/
def primData (op : Prim) (b d : Byte) : Byte := dataAtCompletion op b (dataAtIssue op d)

/-- S.DATA after rows passed (R21). -/
def rowsData (d : Byte) (m : List (FramerRow × Byte)) : Byte := m.foldl (fun d x => primData x.1.op x.2 d) d

/-- The bus events of rows passed from the phase `p` (R31). -/
def rowsEvents (c : Cfg) : Phase → List (FramerRow × Byte) → List BusEvent
  | _, [] => []
  | p, x :: m => eventOf c p x.1.expected x.2 x.1.op :: rowsEvents c (nextPhase c x.1.op p) m

/-- The bus events of a framer that started at `a`, passed `m` and then had `op` answered with `st` and `b`. -/
def issuedEvents (a : State) (m : List (FramerRow × Byte)) (op : Prim) (st b : Byte) : List BusEvent :=
  rowsEvents a.cfg a.phase m ++ [eventOf a.cfg (rowsPhase a.cfg a.phase m) st b op]

theorem rowsPhase_concat (c : Cfg) (p : Phase) (m : List (FramerRow × Byte)) (x : FramerRow × Byte) :
    rowsPhase c p (m ++ [x]) = nextPhase c x.1.op (rowsPhase c p m) := by
  simp [rowsPhase]

theorem rowsData_concat (d : Byte) (m : List (FramerRow × Byte)) (x : FramerRow × Byte) :
    rowsData d (m ++ [x]) = primData x.1.op x.2 (rowsData d m) := by
  simp [rowsData]

theorem rowsEvents_concat (c : Cfg) (p : Phase) (m : List (FramerRow × Byte)) (x : FramerRow × Byte) :
    rowsEvents c p (m ++ [x]) =
      rowsEvents c p m ++ [eventOf c (rowsPhase c p m) x.1.expected x.2 x.1.op] := by
  induction m generalizing p with
  | nil => rfl
  | cons y m ih => simp [rowsEvents, rowsPhase, ih]

@[simp] theorem length_rowsEvents (c : Cfg) (p : Phase) (m : List (FramerRow × Byte)) :
    (rowsEvents c p m).length = m.length := by
  induction m generalizing p with
  | nil => rfl
  | cons x m ih => simp [rowsEvents, ih]

@[simp] theorem isStop_eventOf (c : Cfg) (p : Phase) (st b : Byte) (op : Prim) :
    isStop (eventOf c p st b op) = false := by
  cases op <;> rfl

@[simp] theorem countP_isStop_rowsEvents (c : Cfg) (p : Phase) (m : List (FramerRow × Byte)) :
    (rowsEvents c p m).countP isStop = 0 := by
  induction m generalizing p with
  | nil => rfl
  | cons x m ih => simp [rowsEvents, ih]

@[simp] theorem countP_isStop_issuedEvents (a : State) (m : List (FramerRow × Byte)) (op : Prim) (st b : Byte) :
    (issuedEvents a m op st b).countP isStop = 0 := by
  simp [issuedEvents]

/-! ### A framer that has passed rows -/

/-- The framer that started at `a` stands at `v` after the rows `m`, with nothing reported yet. -/
structure RowsMatched (a : State) (m : List (FramerRow × Byte)) (v : State) : Prop where
  frame : v = { a with
    data := rowsData a.data m
    done := v.done
    status := v.status
    phase := rowsPhase a.cfg a.phase m
    inflight := v.inflight
    fstep := a.fstep + m.length
    fbyte := v.fbyte
    env := v.env
    trace := a.trace ++ (rowsEvents a.cfg a.phase m).map .bus }
  fbyte : (∀ x ∈ m, x.1.capture = false) → v.fbyte = a.fbyte

/-- The framer that started at `a` stands at `w` before its stop step: after the rows `m` it had the primitive
of `r` answered with `st` and `b`, and either `r` was the last row and `st` its code, or `st` was another
(R111, R160). -/
structure StopsAfter (a : State) (m : List (FramerRow × Byte)) (r : FramerRow) (rs : List FramerRow) (st b : Byte)
    (w : State) : Prop where
  rows : framerRows a = m.map Prod.fst ++ r :: rs
  frame : w = { a with
    data := primData r.op b (rowsData a.data m)
    done := true
    status := w.status
    phase := w.phase
    inflight := none
    fstep := w.fstep
    ferr := w.ferr
    fbyte := w.fbyte
    env := w.env
    trace := a.trace ++ (issuedEvents a m r.op st b).map .bus }
  opened : w.phase ≠ .idle
  verdict : (st = r.expected ∧ rs = [] ∧ w.ferr = .ok ∧ w.fbyte = if r.capture then w.data else a.fbyte) ∨
    (st ≠ r.expected ∧ w.ferr = r.err ∧ w.fbyte = a.fbyte)

/-- The two ways in which a framer that started at `a` answers a next state: held in a row (R122), or after its stop
step. -/
inductive FramerAnswers (a : State) : State → Prop
  | held (m : List (FramerRow × Byte)) (r : FramerRow) (rs : List FramerRow) (v : State)
    (hrows : framerRows a = m.map Prod.fst ++ r :: rs) (h : RowsMatched a m v) :
    FramerAnswers a (holdState (issue r.op v))
  | responds (m : List (FramerRow × Byte)) (r : FramerRow) (rs : List FramerRow) (st b : Byte) (w : State)
    (h : StopsAfter a m r rs st b w) : FramerAnswers a (finish w)

/-- The tables' rows each have an error code, and only the last of a table captures (R112, R113). -/
theorem framerRows_facts (a : State) :
    (∀ r ∈ framerRows a, r.err ≠ .ok) ∧ ∀ r ∈ (framerRows a).dropLast, r.capture = false := by
  unfold framerRows
  split <;> simp [wakeupRows, readregRows]

theorem framerRows_ne_nil (hq : a.fseq ≠ .none) : framerRows a ≠ [] := by
  unfold framerRows
  split
  case h_1 h => exact absurd h hq
  all_goals exact List.cons_ne_nil _ _

theorem length_framerRows (hq : a.fseq ≠ .none) : (framerRows a).length + 1 = stopStep a.fseq := by
  unfold framerRows
  split
  case h_1 h => exact absurd h hq
  all_goals next h => exact h ▸ rfl

theorem capture_of_passed (hrows : framerRows a = m.map Prod.fst ++ r :: rs) : ∀ x ∈ m, x.1.capture = false := by
  intro x hx
  refine (framerRows_facts a).2 x.1 ?_
  rw [hrows, List.dropLast_append_of_ne_nil (List.cons_ne_nil r rs)]
  exact List.mem_append_left _ (List.mem_map_of_mem hx)

theorem err_ne_ok (hrows : framerRows a = m.map Prod.fst ++ r :: rs) : r.err ≠ .ok :=
  (framerRows_facts a).1 r (by simp [hrows])

namespace RowsMatched

theorem refl (a : State) : RowsMatched a [] a := ⟨by simp [rowsData, rowsPhase, rowsEvents], fun _ => rfl⟩

/-- A matching row joins the rows passed. -/
theorem passed (h : RowsMatched a m v) (r : FramerRow) (b : Byte) (rest : List BusAnswer) :
    RowsMatched a (m ++ [(r, b)])
      (passed r (complete r.op r.expected b { issue r.op v with env := rest })) where
  frame := by
    rw [h.frame]
    simp [Machine.passed, complete, issue, record, rowsPhase_concat, rowsData_concat, rowsEvents_concat, primData,
      Nat.add_assoc]
  fbyte hcap := by
    simp only [List.forall_mem_append, List.forall_mem_singleton] at hcap
    simpa [hcap.2] using h.fbyte hcap.1

/-- The primitive of the last row has completed. -/
theorem complete_eq (h : RowsMatched a m v) (op : Prim) (st b : Byte) (rest : List BusAnswer) :
    complete op st b { issue op v with env := rest } = { a with
      data := primData op b (rowsData a.data m)
      done := true
      status := .code st
      phase := nextPhase a.cfg op (rowsPhase a.cfg a.phase m)
      inflight := none
      fstep := a.fstep + m.length
      fbyte := v.fbyte
      env := rest
      trace := a.trace ++ (issuedEvents a m op st b).map .bus } := by
  rw [h.frame]
  simp [complete, issue, record, primData, issuedEvents]

theorem phase (h : RowsMatched a m v) : v.phase = rowsPhase a.cfg a.phase m := congrArg State.phase h.frame

/-- The last row matches: the stop step of the success path comes next (R116, R118). -/
theorem lastPassed (h : RowsMatched a m v) (ha : a.ferr = .ok) (hrows : framerRows a = m.map Prod.fst ++ [r])
    (hr : refusalOf r.op v.phase = none) (b : Byte) (rest : List BusAnswer) :
    StopsAfter a m r [] r.expected b
      (Machine.passed r (complete r.op r.expected b { issue r.op v with env := rest })) := by
  rw [h.complete_eq]
  rw [h.phase] at hr
  exact {
    rows := hrows
    frame := rfl
    opened := nextPhase_ne_idle hr a.cfg
    verdict := .inl ⟨rfl, rfl, ha, by simp [h.fbyte (capture_of_passed hrows)]⟩ }

/-- A row does not match: the stop step of the failure path comes next (R160). -/
theorem mismatched (h : RowsMatched a m v) (hrows : framerRows a = m.map Prod.fst ++ r :: rs)
    (hr : refusalOf r.op v.phase = none) (hst : st ≠ r.expected) (b : Byte) (rest : List BusAnswer) :
    StopsAfter a m r rs st b (mismatch r.err (complete r.op st b { issue r.op v with env := rest })) := by
  rw [h.complete_eq]
  rw [h.phase] at hr
  exact {
    rows := hrows
    frame := rfl
    opened := nextPhase_ne_idle hr a.cfg
    verdict := .inr ⟨hst, rfl, h.fbyte (capture_of_passed hrows)⟩ }

/-- On matching answers the framer passes the rows `m` (R111). -/
theorem run {m₀ : List (FramerRow × Byte)} (h : RowsMatched a m₀ v)
    (hadm : AdmittedRows v.cfg (m.map Prod.fst ++ rs) v.phase) (henv : v.env = m.map rowAnswer ++ rest) :
    ∃ w, RowsMatched a (m₀ ++ m) w ∧ w.env = rest ∧ AdmittedRows w.cfg rs w.phase ∧
      runRows (m.map Prod.fst ++ rs) v = runRows rs w := by
  induction m generalizing v m₀ with
  | nil => exact ⟨v, by simpa using h, henv, hadm, rfl⟩
  | cons x m ih =>
    obtain ⟨hr, hadm⟩ := hadm
    obtain ⟨w, hw, hrest, hadm, hrun⟩ := ih (h.passed x.1 x.2 (m.map rowAnswer ++ rest)) hadm rfl
    refine ⟨w, by simpa using hw, hrest, hadm, ?_⟩
    exact (runRows_match hr henv).trans hrun

end RowsMatched

theorem StopsAfter.data (h : StopsAfter a m r rs st b w) : w.data = primData r.op b (rowsData a.data m) :=
  congrArg State.data h.frame

theorem StopsAfter.cfg (h : StopsAfter a m r rs st b w) : w.cfg = a.cfg := by
  rw [h.frame]

theorem StopsAfter.fseq (h : StopsAfter a m r rs st b w) : w.fseq = a.fseq := by
  rw [h.frame]

/-! ### After the stop step (R116, R118, R160), and held (R122) -/

/-- The response byte of a sequence (R71). -/
def framerByte (q : FSeq) (fbyte : Byte) : Byte := if q = .readreg then fbyte else 0x00#8

section Finish

variable (w : State)

@[simp] theorem finish_data : (finish w).data = w.data := by
  obtain ⟨tr, h, -⟩ := finish_spec w
  rw [h]

@[simp] theorem finish_ferr : (finish w).ferr = w.ferr := by
  obtain ⟨tr, h, -⟩ := finish_spec w
  rw [h]

@[simp] theorem finish_fbyte : (finish w).fbyte = w.fbyte := by
  obtain ⟨tr, h, -⟩ := finish_spec w
  rw [h]

@[simp] theorem finish_rsp : (finish w).rsp = framerResponse w := by
  obtain ⟨tr, h, -⟩ := finish_spec w
  rw [h]

@[simp] theorem finish_cfg : (finish w).cfg = w.cfg := (finish_agents w).cfg

end Finish

/-- The word in the form the statements write it in. -/
theorem responseWord_eq_append (c b : Byte) : responseWord c b = c ++ b := rfl

theorem framerResponse_eq (w : State) :
    framerResponse w = responseWord (errByte w.cfg w.ferr) (framerByte w.fseq w.fbyte) := rfl

/-- The byte sent to the sink on the failure path (R160, part 4). -/
def failureReport (c : Cfg) (e : ErrorCode) : List Obs := if e = .ok then [] else [.sink (errByte c e)]

/-- The stop step of a framer that started at `a`, with all that it leaves. -/
theorem StopsAfter.finish_eq (h : StopsAfter a m r rs st b w) : finish w = { a with
    data := primData r.op b (rowsData a.data m)
    done := true
    status := .unspecified
    phase := .idle
    inflight := none
    fseq := .none
    fstep := 0
    ferr := w.ferr
    fbyte := w.fbyte
    rsp := responseWord (errByte a.cfg w.ferr) (framerByte a.fseq w.fbyte)
    env := w.env
    trace := a.trace ++ ((issuedEvents a m r.op st b).map .bus ++ .bus (.stop true) ::
      (failureReport a.cfg w.ferr ++
        [.response (responseWord (errByte a.cfg w.ferr) (framerByte a.fseq w.fbyte))])) } := by
  obtain ⟨tr, hfinish, htr⟩ := finish_spec w
  have hstop : (w.phase != .idle) = true := by simpa using h.opened
  have hreport : tr = failureReport w.cfg w.ferr := htr
  rw [hfinish, hreport, hstop, framerResponse_eq, h.frame]
  simp

/-- A framer held in a row, with all that it leaves. -/
theorem RowsMatched.held_eq (h : RowsMatched a m v) (op : Prim) : ∃ status env,
    holdState (issue op v) = { a with
      data := dataAtIssue op (rowsData a.data m)
      done := false
      status := status
      phase := rowsPhase a.cfg a.phase m
      inflight := some op
      fstep := a.fstep + m.length
      fbyte := v.fbyte
      env := env
      trace := a.trace ++ (rowsEvents a.cfg a.phase m).map .bus } := by
  obtain ⟨env, hheld, -⟩ := holdState_eq (issue op v)
  refine ⟨v.status, env, ?_⟩
  rw [hheld, h.frame]
  rfl

/-- The framer that started at `a` stands at `v` with the rows `rs` still to run: it has passed the rows before
them, and where none are left it stands before its stop step. -/
def RowsLeft (a : State) (rs : List FramerRow) (v : State) : Prop :=
  ∃ m, framerRows a = m.map Prod.fst ++ rs ∧ RowsMatched a m v ∧
    (rs = [] → ∃ m r st b, StopsAfter a m r [] st b v)

/-- A framer's rows come to one of the two answers. -/
theorem framerAnswers_of_runFramer (ha : a.ferr = .ok) (hq : a.fseq ≠ .none) (h : runFramer a = .next t) :
    FramerAnswers a t := by
  have hstart : RowsLeft a (framerRows a) a :=
    ⟨[], rfl, .refl a, fun hnil => absurd hnil (framerRows_ne_nil hq)⟩
  refine runRows_induction (P := RowsLeft a) ?done ?held ?fail ?pass (framerRows a) a t hstart h
  case done =>
    rintro v ⟨-, -, -, hstop⟩
    obtain ⟨_, _, _, _, hv⟩ := hstop rfl
    exact .responds _ _ _ _ _ _ hv
  case held => exact fun _ _ _ ⟨_, hrows, hv, _⟩ _ _ => .held _ _ _ _ hrows hv
  case fail =>
    rintro r rs v st b rest ⟨m, hrows, hv, -⟩ hr - hst
    exact .responds _ _ _ _ _ _ (hv.mismatched hrows hr hst b rest)
  case pass =>
    rintro r rs v b rest ⟨m, hrows, hv, -⟩ hr -
    refine ⟨m ++ [(r, b)], by simpa using hrows, hv.passed r b rest, ?_⟩
    rintro rfl
    exact ⟨m, r, _, b, hv.lastPassed ha hrows hr b rest⟩

end Sys2Proof.Machine
end

section
/-! The next states of the framer's two commands: completed (R112, R113, R116, R118), failed at each step (R151,
R160), and failed at the first where a session was left open (R121). -/

namespace Sys2Proof.Machine

variable {s a : State} {q : FSeq} {m : List (FramerRow × Byte)} {r : FramerRow} {rs : List FramerRow} {st b : Byte}
  {rest : List BusAnswer}

/-! ### The tables on the bus (R112, R113) -/

/-- The bus events of the table of `a`, its `k`-th primitive answered with `st` and those before it with the codes
their steps expect (R112, R113); `b` is the byte read. Only the first `k` events are meant. -/
def stepEvents (a : State) (k : Nat) (st b : Byte) : List BusEvent :=
  match a.fseq with
  | .none => []
  | .wakeup =>
    [.start (a.phase != .idle) (if k = 1 then st else a.cfg.stStart),
     .write .addrW a.cfg.slaW (if k = 2 then st else a.cfg.stTxAddrAck),
     .write .data a.cfg.regPwr (if k = 3 then st else a.cfg.stTxDataAck),
     .write .data a.cfg.wakeValue st]
  | .readreg =>
    [.start (a.phase != .idle) (if k = 1 then st else a.cfg.stStart),
     .write .addrW a.cfg.slaW (if k = 2 then st else a.cfg.stTxAddrAck),
     .write .data a.freg (if k = 3 then st else a.cfg.stTxDataAck),
     .start true (if k = 4 then st else a.cfg.stRepStart),
     .write .addrR a.cfg.slaR (if k = 5 then st else a.cfg.stRxAddrAck),
     .read b false st]

/-- A framer has issued an initial part of its table (R119, R123). -/
theorem issuedEvents_eq_take (hv : a.cfg.valid = true) (hrows : framerRows a = m.map Prod.fst ++ r :: rs)
    (st b : Byte) :
    issuedEvents a m r.op st b = (stepEvents a (m.length + 1) st b).take (m.length + 1) := by
  have hslaW := nextPhase_slaW hv
  have hdirW := direction_slaW_ne_dirRead hv
  have hdirR := direction_slaR a.cfg
  cases hq : a.fseq <;> simp only [framerRows, hq, wakeupRows, readregRows] at hrows
  case none => simp at hrows
  case wakeup =>
    rcases m with _ | ⟨x₁, _ | ⟨x₂, _ | ⟨x₃, _ | ⟨x₄, m⟩⟩⟩⟩ <;> simp at hrows
    all_goals simp [issuedEvents, rowsEvents, rowsPhase, stepEvents, hq, ← hrows, eventOf, writeKind,
      nextPhase_start, nextPhase_write_mt, hslaW, hdirW]
  case readreg =>
    rcases m with _ | ⟨x₁, _ | ⟨x₂, _ | ⟨x₃, _ | ⟨x₄, _ | ⟨x₅, _ | ⟨x₆, m⟩⟩⟩⟩⟩⟩ <;> simp at hrows
    all_goals simp [issuedEvents, rowsEvents, rowsPhase, stepEvents, hq, ← hrows, eventOf, writeKind,
      nextPhase_start, nextPhase_write_mt, hslaW, hdirW, hdirR]

/-- The state after a framer command that started from `s` and ended well, as `failedState` is for a failed one
(R116, R118): `d` is the last byte moved, `fbyte` the byte captured, `byte` the response's. -/
def completedState (s : State) (d fbyte byte : Byte) (rest : List BusAnswer) (evs : List BusEvent) : State :=
  { s with
    data := d
    done := true
    status := .unspecified
    phase := .idle
    fstep := 0
    ferr := .ok
    fbyte := fbyte
    rsp := s.cfg.errOk ++ byte
    env := rest
    trace := s.trace ++ (evs.map .bus ++ [.bus (.stop true), .response (s.cfg.errOk ++ byte)]) }

/-- On matching answers before the last, the framer comes to its stop step. -/
theorem runFramer_stops (hv : s.cfg.valid = true)
    (hrows : framerRows (accept q s) = m.map Prod.fst ++ r :: rs)
    (henv : s.env = m.map rowAnswer ++ .done st b :: rest) (hst : st = r.expected → rs = []) :
    ∃ w, StopsAfter (accept q s) m r rs st b w ∧ w.env = rest ∧ runFramer (accept q s) = .next (finish w) := by
  have hadm : AdmittedRows s.cfg (framerRows (accept q s)) s.phase :=
    admittedRows_rowsFromStep (s := accept q s) hv (by cases q <;> rfl)
  rw [hrows] at hadm
  obtain ⟨w, hw, hrest, ⟨hr, -⟩, hrun⟩ := (RowsMatched.refl (accept q s)).run hadm henv
  rw [runFramer, hrows, hrun]
  by_cases hst' : st = r.expected
  · obtain rfl := hst'
    obtain rfl := hst rfl
    exact ⟨_, hw.lastPassed rfl hrows hr b rest, rfl, runRows_match hr hrest⟩
  · exact ⟨_, hw.mismatched hrows hr hst' b rest, rfl, runRows_mismatch hr hrest hst'⟩

/-- A framer command whose last row passes (R116, R118). -/
theorem runFramer_completes (hb : s.busy = false) (hv : s.cfg.valid = true)
    (hrows : framerRows (accept q s) = m.map Prod.fst ++ [r])
    (henv : s.env = m.map rowAnswer ++ .done r.expected b :: rest) :
    runFramer (accept q s) = .next (completedState s (primData r.op b (rowsData s.data m))
      (if r.capture then primData r.op b (rowsData s.data m) else s.cfg.failByte)
      (framerByte q (if r.capture then primData r.op b (rowsData s.data m) else s.cfg.failByte)) rest
      ((stepEvents (accept q s) (m.length + 1) r.expected b).take (m.length + 1))) := by
  obtain ⟨w, hw, hrest, hrun⟩ := runFramer_stops hv hrows henv fun _ => rfl
  obtain ⟨-, -, hferr, hfbyte⟩ | ⟨hne, -⟩ := hw.verdict
  · rw [hw.data] at hfbyte
    rw [hrun, hw.finish_eq, ← issuedEvents_eq_take (a := accept q s) hv hrows, hferr, hfbyte, hrest]
    simp [completedState, failureReport, errByte, responseWord_eq_append, inflight_of_not_busy s hb,
      fseq_of_not_busy s hb]
  · exact absurd rfl hne

/-- A framer command that fails in the row `r` (R151, R160). -/
theorem runFramer_fails (hb : s.busy = false) (hv : s.cfg.valid = true)
    (hrows : framerRows (accept q s) = m.map Prod.fst ++ r :: rs)
    (henv : s.env = m.map rowAnswer ++ .done st b :: rest) (hst : st ≠ r.expected) :
    runFramer (accept q s) = .next (failedState s r.err (primData r.op b (rowsData s.data m))
      (framerByte q s.cfg.failByte) rest
      ((stepEvents (accept q s) (m.length + 1) st b).take (m.length + 1))) := by
  obtain ⟨w, hw, hrest, hrun⟩ := runFramer_stops hv hrows henv fun h => absurd h hst
  obtain ⟨he, -⟩ | ⟨-, hferr, hfbyte⟩ := hw.verdict
  · exact absurd he hst
  · rw [hrun, hw.finish_eq, ← issuedEvents_eq_take (a := accept q s) hv hrows, hferr, hfbyte, hrest]
    simp [failedState, failureReport, responseWord_eq_append, err_ne_ok hrows, inflight_of_not_busy s hb,
      fseq_of_not_busy s hb]

/-- Settles O21: the four rows of the table pass. -/
theorem wakeupCompletes : Obligations.WakeupCompletes := by
  intro s b₁ b₂ b₃ b₄ rest hb hv henv
  exact (exec_wakeup_of_not_busy hb).trans
    (runFramer_completes (q := .wakeup) (m := (wakeupRows s.cfg).zip [b₁, b₂, b₃]) hb hv rfl henv)

/-- Settles O22: the six rows of the table pass, and the last captures the byte. -/
theorem readregCompletes : Obligations.ReadregCompletes := by
  intro s r b b₁ b₂ b₃ b₄ b₅ rest hb hv henv
  exact (exec_readreg_of_not_busy hb r).trans
    (runFramer_completes (q := .readreg) (s := { s with freg := r })
      (m := (readregRows s.cfg r).zip [b₁, b₂, b₃, b₄, b₅]) hb hv rfl henv)

/-- Settles O23: a row of the table does not pass. -/
theorem wakeupFailureExit : Obligations.WakeupFailureExit := by
  intro s st b b₁ b₂ b₃ rest hb hv
  rw [exec_wakeup_of_not_busy hb]
  have hfail (bs : List Byte) {r : FramerRow} {rs : List FramerRow} := runFramer_fails (q := .wakeup)
    (m := (wakeupRows s.cfg).zip bs) (r := r) (rs := rs) (st := st) (b := b) (rest := rest) hb hv
  exact ⟨hfail [] rfl, hfail [b₁] rfl, hfail [b₁, b₂] rfl, hfail [b₁, b₂, b₃] rfl⟩

/-- Settles O24: a row of the table does not pass, so nothing is captured. -/
theorem readregFailureExit : Obligations.ReadregFailureExit := by
  intro s r st b b₁ b₂ b₃ b₄ b₅ rest hb hv
  rw [exec_readreg_of_not_busy hb]
  have hfail (bs : List Byte) {row : FramerRow} {rs : List FramerRow} := runFramer_fails (q := .readreg)
    (s := { s with freg := r }) (m := (readregRows s.cfg r).zip bs) (r := row) (rs := rs) (st := st) (b := b)
    (rest := rest) hb hv
  exact ⟨hfail [] rfl, hfail [b₁] rfl, hfail [b₁, b₂] rfl, hfail [b₁, b₂, b₃] rfl, hfail [b₁, b₂, b₃, b₄] rfl,
    hfail [b₁, b₂, b₃, b₄, b₅] rfl⟩

/-! ### A session left open (R121) -/

theorem stRepStart_ne_stStart {c : Cfg} (hv : c.valid = true) : c.stRepStart ≠ c.stStart := by
  intro h
  simp [Cfg.valid, Cfg.statusesDistinct, Cfg.namedStatuses, h] at hv

@[simp] theorem responseCode_responseWord (c b : Byte) : responseCode (responseWord c b) = c :=
  congrArg CommandWord.op (Laws.FieldsOfWord.wordFields_append c b)

@[simp] theorem responseByte_responseWord (c b : Byte) : responseByte (responseWord c b) = b :=
  congrArg CommandWord.arg (Laws.FieldsOfWord.wordFields_append c b)

section FailedState

variable (s : State) (c : ErrorCode) (d byte : Byte) (rest : List BusAnswer) (evs : List BusEvent)

theorem failedState_bus : (failedState s c d byte rest evs).bus = s.bus ++ (evs ++ [.stop true]) := by
  rw [bus_append s _ _ rfl]
  simp [Obs.busEvent?, Function.comp_def]

theorem failedState_sink : (failedState s c d byte rest evs).sink = s.sink ++ [errByte s.cfg c] := by
  rw [sink_append s _ _ rfl]
  simp [Obs.sinkByte?, List.filterMap_cons]

end FailedState

/-- Settles O31: the repeated start's code is not the one the first row expects. -/
theorem openSessionFailsTheFramer : Obligations.OpenSessionFailsTheFramer := by
  intro s i b rest hi hb hv hp henv
  have hst := stRepStart_ne_stStart hv
  have hfailed : ∃ f byte, exec i s = .next (failedState { s with freg := f } .failureStart s.data byte rest
      [.start (s.phase != .idle) s.cfg.stRepStart]) := by
    obtain rfl | ⟨r, rfl⟩ := hi
    · exact ⟨s.freg, _, (wakeupFailureExit s _ b b b b rest hb hv).1 henv hst⟩
    · exact ⟨r, _, (readregFailureExit s r _ b b b b b b rest hb hv).1 henv hst⟩
  obtain ⟨f, byte, hexec⟩ := hfailed
  have hopen : (s.phase != .idle) = true := by simpa using hp
  rw [hopen] at hexec
  exact ⟨_, hexec, responseCode_responseWord .., failedState_bus .., failedState_sink .., rfl, hb⟩

end Sys2Proof.Machine
end

section
/-! What a framer command answers (41_framer.md): one STOP, its last primitive (R114), the byte of a read (R118), an
initial part of its table (R123), the state it is held in (R122), what it leaves alone (R110). -/

namespace Sys2Proof.Machine

variable {s t a v w : State} {i : Instr} {q : FSeq} {f : Byte} {m : List (FramerRow × Byte)} {r : FramerRow}
  {rs : List FramerRow} {st b : Byte} {rest : List BusAnswer}

/-! ### The two answers -/

/-- The framer command `i`, its sequence, and S.FREG once it is accepted in `s` (R110, R113). -/
inductive FramerCommand (s : State) : Instr → FSeq → Byte → Prop
  | wakeup : FramerCommand s .wakeup .wakeup s.freg
  | readreg (r : Byte) : FramerCommand s (.readreg r) .readreg r

theorem exists_framerCommand (hi : i = .wakeup ∨ ∃ r, i = .readreg r) (s : State) :
    ∃ q f, FramerCommand s i q f := by
  obtain rfl | ⟨r, rfl⟩ := hi
  exacts [⟨_, _, .wakeup⟩, ⟨_, _, .readreg r⟩]

namespace FramerCommand

theorem fseq_ne_none (h : FramerCommand s i q f) : q ≠ .none := by
  cases h <;> nofun

theorem exec_eq (h : FramerCommand s i q f) : exec i s = whenReady s (runFramer (accept q { s with freg := f })) := by
  cases h <;> rfl

theorem answers (h : FramerCommand s i q f) (hexec : exec i s = .next t) :
    FramerAnswers (accept q { s with freg := f }) t := by
  have hensures : Ensures (FramerAnswers (accept q { s with freg := f })) (exec i s) :=
    h.exec_eq ▸ Ensures.whenReady fun _ _ ht => framerAnswers_of_runFramer rfl h.fseq_ne_none ht
  exact hensures t hexec

/-- A command that is not busy afterwards has been through its stop step. -/
theorem responds (h : FramerCommand s i q f) (hexec : exec i s = .next t) (hb : t.busy = false) :
    ∃ m r rs st b w, StopsAfter (accept q { s with freg := f }) m r rs st b w ∧ t = finish w := by
  cases h.answers hexec with
  | held m r rs v => exact absurd_busy hb ((holdState_busy _).trans (issue_busy v r.op))
  | responds m r rs st b w hw => exact ⟨m, r, rs, st, b, w, hw, rfl⟩

/-- A command that is busy afterwards is held in a row. -/
theorem held (h : FramerCommand s i q f) (hexec : exec i s = .next t) (hu : t.busy = true) :
    ∃ m r rs v, framerRows (accept q { s with freg := f }) = m.map Prod.fst ++ r :: rs ∧
      RowsMatched (accept q { s with freg := f }) m v ∧ t = holdState (issue r.op v) := by
  cases h.answers hexec with
  | held m r rs v hrows hv => exact ⟨m, r, rs, v, hrows, hv, rfl⟩
  | responds m r rs st b w hw =>
    have hop : w.inflight = none := congrArg State.inflight hw.frame
    exact absurd_busy (finish_not_busy hop) hu

end FramerCommand

/-! ### What a framer command puts on the bus and in the sink (R114, R160) -/

@[simp] theorem filterMap_busEvent_failureReport (c : Cfg) (e : ErrorCode) :
    (failureReport c e).filterMap Obs.busEvent? = [] := by
  unfold failureReport
  split <;> rfl

@[simp] theorem filterMap_response_failureReport (c : Cfg) (e : ErrorCode) :
    (failureReport c e).filterMap Obs.response? = [] := by
  unfold failureReport
  split <;> rfl

theorem newEvents_of_trace {es : List Obs} (h : t.trace = s.trace ++ es) :
    newEvents s t = es.filterMap Obs.busEvent? := by
  rw [newEvents, bus_append s t es h, List.drop_left]

theorem StopsAfter.newEvents_eq (h : StopsAfter a m r rs st b w) :
    newEvents a (finish w) = issuedEvents a m r.op st b ++ [.stop true] := by
  rw [h.finish_eq, newEvents_of_trace rfl]
  simp [Obs.busEvent?, Function.comp_def]

theorem RowsMatched.newEvents_eq (h : RowsMatched a m v) (op : Prim) :
    newEvents a (holdState (issue op v)) = rowsEvents a.cfg a.phase m := by
  obtain ⟨status, env, hheld⟩ := h.held_eq op
  rw [hheld, newEvents_of_trace rfl]
  simp [Obs.busEvent?, Function.comp_def]

/-- Settles O25: the stop step is the only one that issues a STOP, and a command that responds ends with it. -/
theorem exactlyOneStopPerFramerCommand : Obligations.ExactlyOneStopPerFramerCommand := by
  intro s t i hi hexec
  obtain ⟨q, f, hcommand⟩ := exists_framerCommand hi s
  refine ⟨?bus, fun hb => ?completed, fun hu => ?held⟩
  case bus =>
    obtain ⟨es, hes, -⟩ := Extends.exec i s t hexec
    rw [newEvents_of_trace hes, bus_append s t es hes]
  case completed =>
    obtain ⟨m, r, rs, st, b, w, hw, rfl⟩ := hcommand.responds hexec hb
    exact ⟨congrArg State.phase hw.finish_eq, _, hw.newEvents_eq, countP_isStop_issuedEvents ..⟩
  case held =>
    obtain ⟨m, r, rs, v, -, hv, rfl⟩ := hcommand.held hexec hu
    exact (congrArg (List.countP isStop) (hv.newEvents_eq r.op)).trans (countP_isStop_rowsEvents ..)

/-- Settles O33: the frames of the two ways to answer. -/
theorem framerFrame : Obligations.FramerFrame := by
  intro s t i hi hexec
  obtain ⟨q, f, hcommand⟩ := exists_framerCommand hi s
  obtain ⟨hcfg, hrequests, hpoll⟩ := exec_agents i s t hexec
  obtain ⟨es, hes, -⟩ := Extends.exec i s t hexec
  have hkept : t.draws = s.draws ∧ t.freg = f := by
    cases hcommand.answers hexec with
    | held m r rs v hrows hv =>
      obtain ⟨status, env, hheld⟩ := hv.held_eq r.op
      rw [hheld]
      exact ⟨rfl, rfl⟩
    | responds m r rs st b w hw =>
      rw [hw.finish_eq]
      exact ⟨rfl, rfl⟩
  refine ⟨hcfg, hkept.1, hrequests, hpoll, ?wakeup, ?readreg, ⟨es, hes.symm⟩, fun hb => ?completed⟩
  case wakeup =>
    rintro rfl
    cases hcommand
    exact hkept.2
  case readreg =>
    rintro r rfl
    cases hcommand
    exact hkept.2
  case completed =>
    obtain ⟨m, r, rs, st, b, w, hw, rfl⟩ := hcommand.responds hexec hb
    rw [hw.finish_eq]
    refine ⟨rfl, rfl, rfl, rfl, ?_⟩
    rw [responses_append s _ _ rfl]
    simp [Obs.response?, List.filterMap_cons]

/-! ### The verdict of a framer that responds (R118, R123) -/

namespace StopsAfter

theorem of_ok (h : StopsAfter a m r rs st b w) (hok : w.ferr = .ok) :
    st = r.expected ∧ rs = [] ∧ w.fbyte = if r.capture then w.data else a.fbyte := by
  obtain ⟨hst, hrs, -, hfbyte⟩ | ⟨-, hferr, -⟩ := h.verdict
  · exact ⟨hst, hrs, hfbyte⟩
  · exact absurd (hferr.symm.trans hok) (err_ne_ok h.rows)

theorem of_not_ok (h : StopsAfter a m r rs st b w) (hne : w.ferr ≠ .ok) :
    st ≠ r.expected ∧ w.ferr = r.err ∧ w.fbyte = a.fbyte := by
  obtain ⟨-, -, hok, -⟩ | hfailed := h.verdict
  · exact absurd hok hne
  · exact hfailed

/-- The row a framer stopped after, in a column of its table. -/
theorem getElem?_rows {α : Type} (h : StopsAfter a m r rs st b w) (g : FramerRow → α) :
    ((framerRows a).map g)[m.length]? = some (g r) := by
  simp [h.rows]

theorem length_rows (h : StopsAfter a m r rs st b w) : m.length + 1 + rs.length = (framerRows a).length := by
  simp [h.rows, Nat.add_assoc, Nat.add_comm]

end StopsAfter

/-- Settles O27: only the last row captures, and the response carries what it leaves. -/
theorem failedReadReturnsFailByte : Obligations.FailedReadReturnsFailByte := by
  intro s t r hexec hb
  obtain ⟨m, row, rs, st, b, w, hw, rfl⟩ := (FramerCommand.readreg r).responds hexec hb
  simp only [finish_data, finish_ferr, finish_fbyte, finish_rsp, finish_cfg, framerResponse_eq, hw.fseq, hw.cfg]
  refine ⟨responseByte_responseWord .., fun hne => (hw.of_not_ok hne).2.2, fun hok => ?_⟩
  obtain ⟨-, rfl, hcapture⟩ := hw.of_ok hok
  have hlast : m.length = 5 := by simpa [framerRows, readregRows] using hw.length_rows
  have hrow := hw.getElem?_rows (·.capture)
  rw [hlast] at hrow
  rw [hcapture, if_pos (Option.some.inj hrow).symm]

/-! ### The table's rows on the bus (R119, R123) -/

/-- The bus events of a framer command that responds are an initial part of its table's, and the STOP. -/
theorem StopsAfter.newEvents_eq_take (h : StopsAfter a m r rs st b w) (hv : a.cfg.valid = true) :
    newEvents a (finish w) = (stepEvents a (m.length + 1) st b).take (m.length + 1) ++ [.stop true] := by
  rw [h.newEvents_eq, issuedEvents_eq_take hv h.rows]

/-- On a failure the status is not the one the row expects, and FERR is the row's code (R111, R160). -/
theorem StopsAfter.failed_row (h : StopsAfter a m r rs st b w) (hne : w.ferr ≠ .ok) :
    ((framerRows a).map (·.expected))[m.length]? ≠ some st ∧
      ((framerRows a).map (·.err))[m.length]? = some w.ferr := by
  obtain ⟨hst, hferr, -⟩ := h.of_not_ok hne
  rw [h.getElem?_rows, h.getElem?_rows, hferr]
  exact ⟨fun heq => hst (Option.some.inj heq).symm, rfl⟩

/-- The framer command that started at `a` and responds at `t` has issued the first `k` primitives of its table,
the `k`-th answered with `st` and `b`, and the STOP (R123). -/
structure IssuedUpTo (a : State) (k : Nat) (st b : Byte) (t : State) : Prop where
  pos : 1 ≤ k
  le : k ≤ (framerRows a).length
  good : t.ferr = .ok → k = (framerRows a).length ∧ ((framerRows a).map (·.expected))[k - 1]? = some st
  failed : t.ferr ≠ .ok → ((framerRows a).map (·.expected))[k - 1]? ≠ some st ∧
    ((framerRows a).map (·.err))[k - 1]? = some t.ferr
  data : ∀ ack, ((framerRows a).map (·.op))[k - 1]? = some (.read ack) → t.data = b
  events : newEvents a t = (stepEvents a k st b).take k ++ [.stop true]

theorem StopsAfter.issuedUpTo (h : StopsAfter a m r rs st b w) (hv : a.cfg.valid = true) :
    IssuedUpTo a (m.length + 1) st b (finish w) where
  pos := Nat.le_add_left 1 m.length
  le := h.length_rows ▸ Nat.le_add_right _ _
  good hok := by
    obtain ⟨rfl, rfl, -⟩ := h.of_ok (finish_ferr w ▸ hok)
    exact ⟨h.length_rows, h.getElem?_rows _⟩
  failed hne := by
    rw [finish_ferr] at hne ⊢
    exact h.failed_row hne
  data ack hop := by
    have hread : r.op = .read ack := Option.some.inj ((h.getElem?_rows (·.op)).symm.trans hop)
    rw [finish_data, h.data, hread]
    rfl
  events := h.newEvents_eq_take hv

theorem FramerCommand.issuedUpTo (h : FramerCommand s i q f) (hv : s.cfg.valid = true) (hexec : exec i s = .next t)
    (hb : t.busy = false) : ∃ k st b, IssuedUpTo (accept q { s with freg := f }) k st b t := by
  obtain ⟨m, r, rs, st, b, w, hw, rfl⟩ := h.responds hexec hb
  exact ⟨_, st, b, hw.issuedUpTo hv⟩

/-- A good command has issued its whole table, the last primitive answered with its code. -/
theorem IssuedUpTo.events_of_ok {k : Nat} (h : IssuedUpTo a k st b t) (hok : t.ferr = .ok) :
    newEvents a t = stepEvents a (framerRows a).length st b ++ [.stop true] := by
  have hlen : (stepEvents a (framerRows a).length st b).length = (framerRows a).length := by
    cases hq : a.fseq <;> simp [stepEvents, framerRows, hq, wakeupRows, readregRows]
  rw [h.events, (h.good hok).1, List.take_of_length_le hlen.le]

/-- Settles O29: the tables' columns are the lists of codes, and a good command has issued its whole table. -/
theorem framerIssuesAnInitialPartOfItsTable : Obligations.FramerIssuesAnInitialPartOfItsTable := by
  refine ⟨fun s t r hv hexec hb => ?readreg, fun s t hv hexec hb => ?wakeup,
    fun s t r hv hp hexec hb hok => ?readregCounts, fun s t hv hp hexec hb hok => ?wakeupCounts⟩
  case readreg =>
    obtain ⟨k, st, b, h⟩ := (FramerCommand.readreg r).issuedUpTo hv hexec hb
    have hdata (hk : k = 6) : b = t.data := (h.data false (hk ▸ rfl)).symm
    have hgood (hok : t.ferr = .ok) : k = 6 ∧ st = s.cfg.stRxDataNack := by
      obtain ⟨hk, hst⟩ := h.good hok
      exact ⟨hk, Option.some.inj (hst.symm.trans (hk ▸ rfl))⟩
    obtain ⟨-, -, hfbyte⟩ := failedReadReturnsFailByte s t r hexec hb
    exact ⟨k, b, st, h.pos, h.le,
      fun hok => ⟨(hgood hok).1, (hdata (hgood hok).1).trans (hfbyte hok).symm, (hgood hok).2⟩, h.failed,
      fun hk hok => hk.ne (hgood hok).1, hdata, h.events⟩
  case wakeup =>
    obtain ⟨k, st, b, h⟩ := FramerCommand.wakeup.issuedUpTo hv hexec hb
    have hgood (hok : t.ferr = .ok) : k = 4 ∧ st = s.cfg.stTxDataAck := by
      obtain ⟨hk, hst⟩ := h.good hok
      exact ⟨hk, Option.some.inj (hst.symm.trans (hk ▸ rfl))⟩
    exact ⟨k, st, h.pos, h.le, hgood, h.failed, fun hk hok => hk.ne (hgood hok).1, h.events⟩
  case readregCounts =>
    obtain ⟨k, st, b, h⟩ := (FramerCommand.readreg r).issuedUpTo hv hexec hb
    have hevents : newEvents s t = _ := h.events_of_ok hok
    rw [hevents]
    simp [stepEvents, framerRows, readregRows, hp, isFirstStart, isRepeatedStart, isStop, isAddressByte, isDataByte,
      isReadByte, List.countP_cons]
  case wakeupCounts =>
    obtain ⟨k, st, b, h⟩ := FramerCommand.wakeup.issuedUpTo hv hexec hb
    have hevents : newEvents s t = _ := h.events_of_ok hok
    rw [hevents]
    simp [stepEvents, framerRows, wakeupRows, hp, isFirstStart, isRepeatedStart, isStop, isAddressByte, isDataByte,
      List.countP_cons]

/-! ### A framer that is held (R92, R122) -/

/-- A framer that the bus stalls in the row it stands at stays there. -/
theorem step_stalled_framer (hop : s.inflight = some r.op) (hq : s.fseq ≠ .none)
    (hrows : rowsFromStep s = r :: rs) (hreq : s.requests = []) (henv : s.env = .stall :: rest) :
    step s = .next s := by
  have hb := busy_of_inflight hop
  have hn : notAnswered s := by simp [notAnswered, henv]
  have hresume : resume s = .next s := by
    rw [resume_framer hop hq, resumeFramer_row hrows, askBus_held hn, checkRow, holdState_of_stall henv]
  rw [step_no_request hreq, advance_busy hb, hresume, thenNext, pollTake_busy hb]

/-- Settles O30: the rows passed are on the bus, the next one is in flight. -/
theorem heldFramerState : Obligations.HeldFramerState := by
  intro s t q i hi hexec hu
  have hcommand : ∃ f, FramerCommand s i q f := by
    obtain ⟨rfl, rfl⟩ | ⟨rfl, r, rfl⟩ := hi
    exacts [⟨_, .wakeup⟩, ⟨_, .readreg r⟩]
  obtain ⟨f, hcommand⟩ := hcommand
  have hq := hcommand.fseq_ne_none
  obtain ⟨m, r, rs, v, hrows, hv, rfl⟩ := hcommand.held hexec hu
  have hevents : newEvents s _ = _ := hv.newEvents_eq r.op
  have hfbyte : v.fbyte = s.cfg.failByte := hv.fbyte (capture_of_passed hrows)
  have hstep : 1 + m.length < stopStep q := by
    have hlen : (framerRows (accept q { s with freg := f })).length + 1 = stopStep q := length_framerRows hq
    simp only [hrows, List.length_append, List.length_map, List.length_cons] at hlen
    omega
  obtain ⟨status, env, hheld⟩ := hv.held_eq r.op
  rw [hevents, hheld]
  refine ⟨rfl, Nat.le_add_right 1 _, hstep, ?inflight, rfl, rfl, hfbyte, rfl, ?sink, ?responses, ?length,
    countP_isStop_rowsEvents .., fun rest hreq henv => step_stalled_framer (rs := rs) rfl hq ?rows hreq henv⟩
  case inflight =>
    show some r.op = (framerRows (accept q { s with freg := f }))[1 + m.length - 1]?.map (·.op)
    simp [hrows]
  case sink =>
    rw [sink_append s _ _ rfl]
    simp [Obs.sinkByte?, Function.comp_def]
  case responses =>
    rw [responses_append s _ _ rfl]
    simp [Obs.response?, Function.comp_def]
  case length => simp
  case rows =>
    rw [rowsFromStep_eq_drop (Nat.add_comm 1 _)]
    show (framerRows (accept q { s with freg := f })).drop m.length = r :: rs
    simp [hrows]

end Sys2Proof.Machine
end

section
/-! The polling loop (42_host_polling.md): the commands it issues, where a response takes it (R132, R134, R135), its
sends (R136), ERROR (R138), a whole good cycle (R140). -/

namespace Sys2Proof.Machine

variable {s t u : State} {p : PollHost} {i : Instr}

/-! ### The loop's transition -/

/-- The framer command a state of the loop issues; none where its transition is one on the sink or of the loop's
own (R132 to R138). -/
def pollCommand (c : Cfg) : PollState → Option Instr
  | .startup => some .wakeup
  | .readHigh => some (.readreg c.regAxisH)
  | .readLow => some (.readreg c.regAxisL)
  | .boot | .wait | .sendHigh | .sendLow | .sendNewline | .error | .halt => none

/-- The loop's commands are the framer's, which no phase refuses (R121). -/
theorem commandRefusal_pollCommand {c : Cfg} {pc : PollState} (h : pollCommand c pc = some i) (q : Phase) :
    commandRefusal i q = none := by
  unfold pollCommand at h
  split at h <;> cases h
  all_goals rfl

theorem pollStep_of_command (h : pollCommand s.cfg p.pc = some i) : pollStep p s = pollIssue i p s := by
  unfold pollStep
  split
  case h_2 hpc | h_4 hpc | h_5 hpc =>
    rw [hpc] at h
    exact Option.some.inj h ▸ rfl
  all_goals simp [pollCommand, ‹p.pc = _›] at h

/-- Where the loop issues no command, its transition answers, and the block stays as busy as it is. -/
theorem pollStep_of_no_command (h : pollCommand s.cfg p.pc = none) :
    ∃ t, pollStep p s = .next t ∧ t.busy = s.busy := by
  unfold pollStep
  split
  case h_2 hpc | h_4 hpc | h_5 hpc => simp [pollCommand, hpc] at h
  all_goals exact ⟨_, rfl, rfl⟩

/-- Where BUSY = 0 and nothing is asked, a step is the loop's transition. -/
theorem step_eq_pollStep (hb : s.busy = false) (hreq : s.requests = []) (hpoll : s.poll = some p) :
    step s = pollStep p s := by
  simp [step_no_request hreq, advance, hb, hpoll]

/-- A step in which the loop issues its command. -/
theorem step_issue (hb : s.busy = false) (hreq : s.requests = []) (hpoll : s.poll = some p)
    (hi : pollCommand s.cfg p.pc = some i) :
    step s = thenNext (exec i (setPoll { p with waiting := true } s)) pollTake :=
  (step_eq_pollStep hb hreq hpoll).trans (pollStep_of_command hi)

/-- Settles O56: the two framer commands answer in every phase. -/
theorem pollAlwaysHasASuccessor : Obligations.PollAlwaysHasASuccessor := by
  intro s p hb hv
  cases hi : pollCommand s.cfg p.pc with
  | none =>
    obtain ⟨t, ht, -⟩ := pollStep_of_no_command hi
    exact ⟨t, ht⟩
  | some i =>
    obtain ⟨u, hu⟩ := (exec_answers_iff (s := setPoll { p with waiting := true } s) hb hv i).2
      (commandRefusal_pollCommand hi s.phase)
    exact ⟨pollTake u, by rw [pollStep_of_command hi, pollIssue, hu, thenNext]⟩

/-! ### The response -/

/-- Where the response of WAKEUP takes the loop (R132). -/
theorem pollResponse_startup (hpc : p.pc = .startup) (w : Word16) (s : State) :
    pollResponse w p s = if responseCode w = s.cfg.errOk
      then { s with poll := some { p with pc := .wait, waiting := false } }
      else { s with
        poll := some { p with pc := .halt, waiting := false }
        trace := s.trace ++ if s.cfg.startupFailHostEmits then [.sink (responseCode w)] else [] } := by
  simp only [pollResponse, hpc]
  split
  · rfl
  · split
    · rfl
    · simp [goto, setPoll]

/-- Where the response of the first read takes the loop (R134, as R137 means it). -/
theorem pollResponse_readHigh (hpc : p.pc = .readHigh) (w : Word16) (s : State) :
    pollResponse w p s = { s with poll := some (if responseCode w = s.cfg.errOk
      then { p with pc := .readLow, high := responseByte w, waiting := false }
      else { p with pc := .error, waiting := false }) } := by
  simp only [pollResponse, hpc]
  split <;> rfl

/-- Where the response of the second read takes the loop (R135, as R137 means it). -/
theorem pollResponse_readLow (hpc : p.pc = .readLow) (w : Word16) (s : State) :
    pollResponse w p s = { s with poll := some (if responseCode w = s.cfg.errOk
      then { p with pc := .sendHigh, low := responseByte w, waiting := false }
      else { p with pc := .error, waiting := false }) } := by
  simp only [pollResponse, hpc]
  split <;> rfl

section Issue

variable (hb : s.busy = false) (hreq : s.requests = []) (hpoll : s.poll = some p)
  (hi : pollCommand s.cfg p.pc = some i) (hexec : exec i (setPoll { p with waiting := true } s) = .next u)

include hexec

theorem poll_of_issue : u.poll = some { p with waiting := true } :=
  (exec_agents i _ u hexec).poll

include hb hreq hpoll hi

theorem step_issue_next : step s = .next (pollTake u) := by
  rw [step_issue hb hreq hpoll hi, hexec, thenNext]

/-- A held command: the loop stays and waits. -/
theorem step_issue_held (hu : u.busy = true) : step s = .next u := by
  rw [step_issue_next hb hreq hpoll hi hexec, pollTake_busy hu]

/-- A command that responds at once: the loop takes the response in the same step. -/
theorem step_issue_responds (hu : u.busy = false) :
    step s = .next (pollResponse u.rsp { p with waiting := true } u) := by
  rw [step_issue_next hb hreq hpoll hi hexec, pollTake_waiting hu (poll_of_issue hexec) rfl]

theorem step_issue_answers :
    (u.busy = false → step s = .next (pollResponse u.rsp { p with waiting := true } u)) ∧
      (u.busy = true → step s = .next u ∧ u.poll = some { p with waiting := true }) :=
  ⟨step_issue_responds hb hreq hpoll hi hexec,
    fun hu => ⟨step_issue_held hb hreq hpoll hi hexec hu, poll_of_issue hexec⟩⟩

end Issue

/-- Settles O52: WAKEUP is the command of `startup`, and the response is taken in the step. -/
theorem pollStartup : Obligations.PollStartup := by
  intro s p hb hreq hpoll
  have hstep := step_eq_pollStep hb hreq hpoll
  refine ⟨fun hpc => ?boot, fun hpc u hexec => ?startup, fun hpc => ?halt⟩
  case boot => simp [hstep, pollStep, hpc, goto, setPoll, record]
  case halt => simp [hstep, pollStep, hpc]
  case startup =>
    have hi : pollCommand s.cfg p.pc = some .wakeup := by rw [hpc]; rfl
    have hresponds (hu : u.busy = false) := step_issue_responds hb hreq hpoll hi hexec hu
    simp only [pollResponse_startup (p := { p with waiting := true }) hpc] at hresponds
    refine ⟨step_issue_held hb hreq hpoll hi hexec, fun hu hok => ?ok, fun hu hne => ?failed⟩
    case ok => simpa only [if_pos hok] using hresponds hu
    case failed =>
      refine ⟨_, (hresponds hu).trans (by rw [if_neg hne]), rfl, ?bus, ?sink⟩
      case bus =>
        rw [bus_append u _ _ rfl]
        split <;> simp [Obs.busEvent?]
      case sink =>
        rw [sink_append u _ _ rfl]
        split <;> simp [Obs.sinkByte?]

/-- Settles O53: READREG is the command of both states. -/
theorem pollReads : Obligations.PollReads := by
  intro s u p hb hreq hpoll
  refine ⟨fun hpc hexec => ?high, fun hpc hexec => ?low⟩
  case high =>
    rw [← pollResponse_readHigh (p := { p with waiting := true }) hpc]
    exact step_issue_answers hb hreq hpoll (by rw [hpc]; rfl) hexec
  case low =>
    rw [← pollResponse_readLow (p := { p with waiting := true }) hpc]
    exact step_issue_answers hb hreq hpoll (by rw [hpc]; rfl) hexec

/-! ### A loop that waits (R91, R130, R141) -/

/-- Settles O58: the block's own move leaves the loop alone, and what it answers is then taken. -/
theorem pollTakesTheLateResponse : Obligations.PollTakesTheLateResponse := by
  intro s u p hb hreq hpoll hw hresume
  have hpoll' : u.poll = some p := (resume_agents hresume).poll.trans hpoll
  have hstep : step s = .next (pollTake u) := by
    rw [step_no_request hreq, advance_busy hb, hresume, thenNext]
  refine ⟨fun hu => ⟨by rw [hstep, pollTake_busy hu], hpoll'⟩, fun hu => ?_⟩
  rw [hstep, pollTake_waiting hu hpoll' hw]
  exact ⟨fun hpc => by rw [pollResponse_startup hpc], fun hpc => by rw [pollResponse_readHigh hpc],
    fun hpc => by rw [pollResponse_readLow hpc]⟩

theorem busy_pollTake (s : State) : (pollTake s).busy = s.busy := by
  obtain ⟨q, tr, h, -⟩ := pollTake_spec s
  rw [h]
  rfl

/-- A loop whose step leaves the block busy has issued a command, which is held. -/
theorem held_of_step_busy (hb : s.busy = false) (hreq : s.requests = []) (hpoll : s.poll = some p)
    (h : step s = .next u) (hu : u.busy = true) :
    ∃ i, pollCommand s.cfg p.pc = some i ∧ exec i (setPoll { p with waiting := true } s) = .next u := by
  cases hi : pollCommand s.cfg p.pc with
  | none =>
    obtain ⟨t, ht, htb⟩ := pollStep_of_no_command hi
    rw [step_eq_pollStep hb hreq hpoll, ht] at h
    cases h
    exact absurd_busy (htb.trans hb) hu
  | some i =>
    refine ⟨i, rfl, ?_⟩
    rw [step_issue hb hreq hpoll hi] at h
    cases hexec : exec i (setPoll { p with waiting := true } s) with
    | next v =>
      rw [hexec, thenNext] at h
      cases h
      rw [pollTake_busy ((busy_pollTake v).symm.trans hu)]
    | fault r => simp [hexec, thenNext] at h
    | refused r => simp [hexec, thenNext] at h

/-- Settles O59: the held command goes on as if it had been issued with the later answers, and the loop then takes
what it answers. -/
theorem pollWaitingDoesNotChangeTheResult : Obligations.PollWaitingDoesNotChangeTheResult := by
  intro s u p hb hreq hpoll h hu
  obtain ⟨i, hi, hexec⟩ := held_of_step_busy hb hreq hpoll h hu
  obtain ⟨consumed, henv, hresume⟩ := exec_held_resumesAs (s := setPoll { p with waiting := true } s) hb hexec hu
  have hrequests : u.requests = [] := (exec_agents i _ u hexec).requests.trans hreq
  refine ⟨poll_of_issue hexec, consumed, henv, fun more => ?_⟩
  calc step { u with env := more }
      = thenNext (resume { u with env := more }) pollTake :=
        (step_no_request (s := { u with env := more }) hrequests).trans (advance_busy hu)
    _ = thenNext (exec i (setPoll { p with waiting := true } { s with env := consumed ++ more })) pollTake :=
        congrArg (thenNext · pollTake) (hresume more)
    _ = step { s with env := consumed ++ more } :=
        (step_issue (s := { s with env := consumed ++ more }) hb hreq hpoll hi).symm

/-! ### The sends and ERROR (R133, R136, R138) -/

/-- Settles O54: each is the loop's transition in its state. -/
theorem pollSends : Obligations.PollSends := by
  intro s p hb hreq hpoll
  rw [step_eq_pollStep hb hreq hpoll]
  refine ⟨fun hpc => ?_, fun hpc => ?_, fun hpc => ?_, fun hpc => ?_⟩ <;>
    simp [pollStep, hpc, goto, setPoll, sinkSend, record]

theorem run_succ (h : step s = .next t) (n : Nat) :
    Host.Core.run Sys2Proof.core (n + 1) s = Host.Core.run Sys2Proof.core n t := by
  simp only [Host.Core.run, Sys2Proof.core, h]

theorem step_error (hb : s.busy = false) (hreq : s.requests = []) (hpoll : s.poll = some p) (hpc : p.pc = .error) :
    step s = .next (sinkSend s.cfg.newline s) := by
  simp [step_eq_pollStep hb hreq hpoll, pollStep, hpc]

/-- Settles O55, by induction on the number of steps. -/
theorem pollErrorIsAbsorbing : Obligations.PollErrorIsAbsorbing := by
  intro n
  induction n with
  | zero => exact fun s p _ _ hpoll _ => ⟨s, rfl, hpoll, rfl, by simp⟩
  | succ n ih =>
    intro s p hb hreq hpoll hpc
    obtain ⟨t, hrun, htpoll, htbus, htsink⟩ := ih (sinkSend s.cfg.newline s) p hb hreq hpoll hpc
    refine ⟨t, (run_succ (step_error hb hreq hpoll hpc) n).trans hrun, htpoll, by simpa using htbus, ?_⟩
    rw [htsink]
    simp [List.replicate_succ]

/-! ### A good cycle (R140) -/

/-- The loop stands at `p` over a block with nothing to do, the answers `env` to come and `sink` on the sink. -/
structure LoopAt (c : Cfg) (p : PollHost) (env : List BusAnswer) (sink : List Byte) (s : State) : Prop where
  busy : s.busy = false
  requests : s.requests = []
  cfg : s.cfg = c
  poll : s.poll = some p
  env : s.env = env
  sink : s.sink = sink

/-- The six answers READREG expects, the last with the byte `b` (R113). -/
def goodReadAnswers (c : Cfg) (b b₁ b₂ b₃ b₄ b₅ : Byte) : List BusAnswer :=
  [.done c.stStart b₁, .done c.stTxAddrAck b₂, .done c.stTxDataAck b₃, .done c.stRepStart b₄, .done c.stRxAddrAck b₅,
    .done c.stRxDataNack b]

namespace LoopAt

variable {c : Cfg} {env rest : List BusAnswer} {sink : List Byte} {b b₁ b₂ b₃ b₄ b₅ : Byte}

/-- On the six expected answers the loop's READREG responds well (R113, R118). -/
theorem exec_read (h : LoopAt c p (goodReadAnswers c b b₁ b₂ b₃ b₄ b₅ ++ rest) sink s) (hv : c.valid = true)
    (r : Byte) : ∃ u, exec (.readreg r) (setPoll { p with waiting := true } s) = .next u ∧
      responseCode u.rsp = u.cfg.errOk ∧ responseByte u.rsp = b ∧ ∀ q, LoopAt c q rest sink (setPoll q u) := by
  obtain ⟨hb, hreq, rfl, hpoll, henv, rfl⟩ := h
  refine ⟨_, readregCompletes (setPoll { p with waiting := true } s) r b b₁ b₂ b₃ b₄ b₅ rest hb hv henv,
    responseCode_responseWord .., responseByte_responseWord .., fun q => ⟨hb, hreq, rfl, rfl, rfl, ?_⟩⟩
  rw [setPoll_sink, sink_append s _ _ rfl]
  simp [Obs.sinkByte?, List.filterMap_cons]

theorem wait (h : LoopAt c p env sink s) (hpc : p.pc = .wait) : ∃ t, step s = .next t ∧
    LoopAt c { p with pc := .readHigh, high := 0x00#8, low := 0x00#8 } env sink t := by
  obtain ⟨hwait, -⟩ := pollSends s p h.busy h.requests h.poll
  exact ⟨_, hwait hpc, h.busy, h.requests, h.cfg, rfl, h.env, h.sink⟩

theorem readHigh (h : LoopAt c p (goodReadAnswers c b b₁ b₂ b₃ b₄ b₅ ++ rest) sink s) (hv : c.valid = true)
    (hpc : p.pc = .readHigh) : ∃ t, step s = .next t ∧
    LoopAt c { p with pc := .readLow, high := b, waiting := false } rest sink t := by
  obtain ⟨u, hexec, hok, hbyte, hu⟩ := h.exec_read hv s.cfg.regAxisH
  obtain ⟨hread, -⟩ := pollReads s u p h.busy h.requests h.poll
  obtain ⟨hstep, -⟩ := hread hpc hexec
  refine ⟨_, hstep (hu p).busy, ?_⟩
  rw [if_pos hok, hbyte]
  exact hu _

theorem readLow (h : LoopAt c p (goodReadAnswers c b b₁ b₂ b₃ b₄ b₅ ++ rest) sink s) (hv : c.valid = true)
    (hpc : p.pc = .readLow) : ∃ t, step s = .next t ∧
    LoopAt c { p with pc := .sendHigh, low := b, waiting := false } rest sink t := by
  obtain ⟨u, hexec, hok, hbyte, hu⟩ := h.exec_read hv s.cfg.regAxisL
  obtain ⟨-, hread⟩ := pollReads s u p h.busy h.requests h.poll
  obtain ⟨hstep, -⟩ := hread hpc hexec
  refine ⟨_, hstep (hu p).busy, ?_⟩
  rw [if_pos hok, hbyte]
  exact hu _

/-- A byte sent, and the loop elsewhere. -/
theorem send (h : LoopAt c p env sink s) (q : PollHost) (b : Byte) :
    LoopAt c q env (sink ++ [b]) { s with poll := some q, trace := s.trace ++ [.sink b] } :=
  ⟨h.busy, h.requests, h.cfg, rfl, h.env, by rw [sink_append s _ _ rfl, h.sink]; rfl⟩

theorem sendHigh (h : LoopAt c p env sink s) (hpc : p.pc = .sendHigh) : ∃ t, step s = .next t ∧
    LoopAt c { p with pc := .sendLow } env (sink ++ [p.high]) t := by
  obtain ⟨-, hsend, -⟩ := pollSends s p h.busy h.requests h.poll
  exact ⟨_, hsend hpc, h.send _ _⟩

theorem sendLow (h : LoopAt c p env sink s) (hpc : p.pc = .sendLow) : ∃ t, step s = .next t ∧
    LoopAt c { p with pc := .sendNewline } env (sink ++ [p.low]) t := by
  obtain ⟨-, -, hsend, -⟩ := pollSends s p h.busy h.requests h.poll
  exact ⟨_, hsend hpc, h.send _ _⟩

theorem sendNewline (h : LoopAt c p env sink s) (hpc : p.pc = .sendNewline) : ∃ t, step s = .next t ∧
    LoopAt c { p with pc := .wait } env (sink ++ [c.newline]) t := by
  obtain ⟨-, -, -, hsend⟩ := pollSends s p h.busy h.requests h.poll
  exact ⟨_, hsend hpc, h.cfg ▸ h.send _ _⟩

end LoopAt

/-- Settles O57: the loop's six transitions in turn. -/
theorem pollGoodCycle : Obligations.PollGoodCycle := by
  intro s p h l b₁ b₂ b₃ b₄ b₅ b₆ b₇ b₈ b₉ b₁₀ rest hb hreq hv hpoll hpc henv
  have hstart : LoopAt s.cfg p (goodReadAnswers s.cfg h b₁ b₂ b₃ b₄ b₅ ++
      (goodReadAnswers s.cfg l b₆ b₇ b₈ b₉ b₁₀ ++ rest)) s.sink s := ⟨hb, hreq, rfl, hpoll, henv, rfl⟩
  obtain ⟨s₁, hstep₁, h₁⟩ := hstart.wait hpc
  obtain ⟨s₂, hstep₂, h₂⟩ := h₁.readHigh hv rfl
  obtain ⟨s₃, hstep₃, h₃⟩ := h₂.readLow hv rfl
  obtain ⟨s₄, hstep₄, h₄⟩ := h₃.sendHigh rfl
  obtain ⟨s₅, hstep₅, h₅⟩ := h₄.sendLow rfl
  obtain ⟨s₆, hstep₆, h₆⟩ := h₅.sendNewline rfl
  refine ⟨s₆, ?run, ?sink, h₆.busy, h₆.env, h₆.poll⟩
  case run =>
    rw [run_succ hstep₁, run_succ hstep₂, run_succ hstep₃, run_succ hstep₄, run_succ hstep₅, run_succ hstep₆]
    rfl
  case sink => simpa using h₆.sink

end Sys2Proof.Machine
end

section
/-! What a framer command's response vouches for (60_exceptions.md): the phase, the STOP and the error byte behind it
(R162), and their order in the merged history (R160). -/

namespace Sys2Proof.Machine

variable {a w : State} {m : List (FramerRow × Byte)} {r : FramerRow} {rs : List FramerRow} {st b : Byte}

/-- ERR_OK is the byte of no other code (R9). -/
theorem errByte_eq_errOk_iff {c : Cfg} (hv : c.valid = true) (e : ErrorCode) : errByte c e = c.errOk ↔ e = .ok := by
  simp only [Cfg.valid, Cfg.errorsDistinct, Bool.and_eq_true, decide_eq_true_eq] at hv
  obtain ⟨⟨-, hdistinct⟩, -⟩ := hv
  obtain ⟨hok, -⟩ := List.nodup_cons.mp hdistinct
  have hfailure (hne : e ≠ .ok) : errByte c e ∈ c.errorCodes.tail := by
    cases e <;> simp [errByte, Cfg.errorCodes] at hne ⊢
  refine ⟨fun heq => ?_, fun h => h ▸ rfl⟩
  by_contra hne
  exact hok (heq ▸ hfailure hne)

@[simp] theorem filterMap_sinkByte_failureReport (c : Cfg) (e : ErrorCode) :
    (failureReport c e).filterMap Obs.sinkByte? = if e = .ok then [] else [errByte c e] := by
  unfold failureReport
  split <;> rfl

/-- The merged history of a framer that responds (R60, R160). -/
theorem StopsAfter.finish_trace (h : StopsAfter a m r rs st b w) :
    (finish w).trace = a.trace ++ ((issuedEvents a m r.op st b).map .bus ++ .bus (.stop true) ::
      (failureReport a.cfg w.ferr ++ [.response (finish w).rsp])) := by
  rw [h.finish_eq]

theorem StopsAfter.finish_sink (h : StopsAfter a m r rs st b w) :
    (finish w).sink = a.sink ++ if w.ferr = .ok then [] else [errByte a.cfg w.ferr] := by
  rw [sink_append a _ _ h.finish_trace]
  simp [Obs.sinkByte?, Function.comp_def, List.filterMap_cons]

/-- Settles O26: the response and the sink carry the byte of FERR, and only ERR_OK is the byte of a good command. -/
theorem framerReportCanBeReliedOn : Obligations.FramerReportCanBeReliedOn := by
  intro s t i hi hv hexec hb
  obtain ⟨hbus, hcompleted, -⟩ := exactlyOneStopPerFramerCommand s t i hi hexec
  obtain ⟨hphase, evs, hevs, -⟩ := hcompleted hb
  obtain ⟨q, f, hcommand⟩ := exists_framerCommand hi s
  obtain ⟨m, r, rs, st, b, w, hw, rfl⟩ := hcommand.responds hexec hb
  have hcfg : w.cfg = s.cfg := hw.cfg
  have hcode : responseCode (finish w).rsp = errByte s.cfg w.ferr := by
    rw [finish_rsp, framerResponse_eq, hcfg, responseCode_responseWord]
  have hsink : (finish w).sink = s.sink ++ if w.ferr = .ok then [] else [errByte s.cfg w.ferr] := hw.finish_sink
  rw [hcode, hsink, finish_cfg, finish_ferr, hcfg, Ne, errByte_eq_errOk_iff hv]
  refine ⟨hphase, ?stop, rfl, fun hfailed => ?failed, fun hok => ?good⟩
  case stop => simp [hbus, hevs]
  case failed => rw [if_neg hfailed]
  case good => rw [if_pos hok, List.append_nil]

/-- Settles O28: the stop step's part of the merged history, the failure report not empty. -/
theorem errorByteFollowsTheStop : Obligations.ErrorByteFollowsTheStop := by
  intro s t i hi hexec hb hfailed
  obtain ⟨q, f, hcommand⟩ := exists_framerCommand hi s
  obtain ⟨m, r, rs, st, b, w, hw, rfl⟩ := hcommand.responds hexec hb
  rw [finish_ferr] at hfailed
  refine ⟨issuedEvents s m r.op st b, countP_isStop_issuedEvents .., hw.finish_trace.trans ?_⟩
  rw [finish_cfg, finish_ferr, hw.cfg, failureReport, if_neg hfailed]
  exact (List.append_assoc ..).symm

end Sys2Proof.Machine
end

section
/-! Resets (R180, R181), stops around a session (R187, R188), and commands on a bus that completes what it is asked
(R195). -/

namespace Sys2Proof.Machine

variable {s t u : State} {op : Prim} {n : Nat}

/-! ### Resets (R180, R181) -/

/-- A reset that need not wait restarts the block. -/
theorem step_reset {who : Requester} {rest : List Request} (hreq : s.requests = ⟨who, .reset⟩ :: rest)
    (hb : who = .host → s.busy = false) : step s = .next (restart { s with requests := rest }) := by
  cases who with
  | host => exact step_not_busy (hb rfl) hreq
  | bench => exact step_bench hreq

/-- Settles O48: the step is the restart, which sets each of these fields. -/
theorem restartFromEveryState : Obligations.RestartFromEveryState := fun _ _ _ hreq hb =>
  ⟨_, step_reset hreq hb, rfl, rfl, rfl, rfl, rfl, rfl, rfl, rfl, rfl, rfl, rfl, rfl, rfl, rfl, rfl⟩

/-! ### Stops around a session (R187, R188) -/

/-- Settles O36: the START is issued in IDLE, where the STOP has led. -/
theorem startAfterStopIsAFirstStart : Obligations.StartAfterStopIsAFirstStart := by
  intro s st b rest hb henv
  refine ⟨_, _, exec_stop_of_not_busy hb, startCompletes (stopBus s) st b rest hb henv, rfl, ?_⟩
  rw [bus_append (stopBus s) _ _ rfl]
  simp [Obs.busEvent?]

/-- In IDLE a STOP finds the phase and the status register as it would leave them (R26, R103). -/
theorem stopBus_idle (hp : s.phase = .idle) (hst : s.status = .unspecified) :
    stopBus s = { s with trace := s.trace ++ [.bus (.stop false)] } := by
  simp [stopBus, record, hp, ← hst]

/-- Settles O35: the READREG starts from IDLE and passes its six rows. -/
theorem redundantStopIsHarmless : Obligations.RedundantStopIsHarmless := by
  intro s r b b₁ b₂ b₃ b₄ b₅ rest hb hv hp hst henv
  refine ⟨_, _, exec_stop_of_not_busy hb, stopBus_idle hp hst,
    readregCompletes (stopBus s) r b b₁ b₂ b₃ b₄ b₅ rest hb hv henv, rfl, ?_⟩
  rw [newEvents_of_trace rfl]
  simp [Obs.busEvent?]

/-! ### A bus that completes what it is asked (R195) -/

/-- The result is a next state with BUSY = 0, reached from `s` with at most `n` answers used. -/
def RespondsWithin (n : Nat) (s : State) (o : Result) : Prop :=
  ∃ t, o = .next t ∧ t.busy = false ∧ ∃ used, s.env = used ++ t.env ∧ used.length ≤ n

namespace RespondsWithin

theorem of_env_eq (hb : t.busy = false) (henv : t.env = s.env) : RespondsWithin n s (.next t) :=
  ⟨t, rfl, hb, [], henv.symm, n.zero_le⟩

/-- One answer more has been used. -/
theorem after {a : BusAnswer} {o : Result} (h : RespondsWithin n u o) (henv : s.env = a :: u.env) :
    RespondsWithin (n + 1) s o := by
  obtain ⟨t, ho, hb, used, hused, hlen⟩ := h
  exact ⟨t, ho, hb, a :: used, by rw [henv, hused, List.cons_append], Nat.succ_le_succ hlen⟩

end RespondsWithin

/-- The next answer is a completion, and the answers after it complete in their turn. -/
theorem completesNext_succ (h : completesNext (n + 1) s) : ∃ st b rest, s.env = .done st b :: rest ∧
    completesNext n { s with env := rest } := by
  obtain ⟨hlen, hall⟩ := h
  cases henv : s.env with
  | nil => simp [henv] at hlen
  | cons a rest =>
    rw [henv] at hlen hall
    obtain ⟨ha, hrest⟩ := List.forall_mem_cons.mp hall
    cases a with
    | done st b => exact ⟨st, b, rest, rfl, Nat.le_of_succ_le_succ hlen, hrest⟩
    | stall => cases ha
    | wait => cases ha

@[simp] theorem finish_env (w : State) : (finish w).env = w.env := by
  obtain ⟨tr, h, -⟩ := finish_spec w
  rw [h]

theorem respondStatus_env (byte : Byte) (s : State) : (respondStatus byte s).env = s.env := by
  unfold respondStatus readStatus
  split <;> rfl

/-- A primitive of the host uses one answer. -/
theorem exec_primitive_respondsWithin (hb : s.busy = false) (hr : refusalOf op s.phase = none)
    (h : completesNext (n + 1) s) : RespondsWithin (n + 1) s (exec (hostCommand op) s) := by
  obtain ⟨st, b, rest, henv, -⟩ := completesNext_succ h
  rw [exec_hostCommand, hostPrimitive_done hb hr henv]
  exact .after (.of_env_eq (hostCompleted_busy hb op st b rest) rfl) henv

/-- A framer uses one answer for each row it passes, and one for the row it fails in, if there is one. -/
theorem runRows_respondsWithin {rows : List FramerRow} (hadm : AdmittedRows s.cfg rows s.phase)
    (hop : s.inflight = none) (hlen : rows.length ≤ n) (h : completesNext n s) :
    RespondsWithin n s (runRows rows s) := by
  induction rows generalizing s n with
  | nil => exact .of_env_eq (finish_not_busy hop) (finish_env s)
  | cons r rs ih =>
    obtain ⟨hr, hadm⟩ := hadm
    obtain _ | n := n
    · cases hlen
    obtain ⟨st, b, rest, henv, hrest⟩ := completesNext_succ h
    by_cases hst : st = r.expected
    · obtain rfl := hst
      rw [runRows_match hr henv]
      exact .after (ih hadm rfl (Nat.le_of_succ_le_succ hlen) hrest) henv
    · rw [runRows_mismatch hr henv hst]
      exact .after (.of_env_eq (finish_not_busy rfl) (finish_env _)) henv

/-- The longer of the two tables has six rows (R113). -/
theorem length_framerRows_le (s : State) : (framerRows s).length ≤ 6 := by
  unfold framerRows
  split <;> simp [wakeupRows, readregRows]

theorem runFramer_respondsWithin (hb : s.busy = false) (hv : s.cfg.valid = true) (h : completesNext 6 s) (q : FSeq) :
    RespondsWithin 6 s (runFramer (accept q s)) :=
  runRows_respondsWithin (s := accept q s) (admittedRows_rowsFromStep (s := accept q s) hv (by cases q <;> rfl))
    (inflight_of_not_busy s hb) (length_framerRows_le _) h

/-- Settles O46: a primitive uses one answer, a framer one for each row it runs, STOP and STATUS none. -/
theorem commandsRespondOnABusThatCompletes : Obligations.CommandsRespondOnABusThatCompletes := by
  intro s i hb hv hr h
  cases i with
  | start => exact exec_primitive_respondsWithin (op := .start) hb hr h
  | write v => exact exec_primitive_respondsWithin (op := .write v) hb hr h
  | readAck => exact exec_primitive_respondsWithin (op := .read true) hb hr h
  | readNack => exact exec_primitive_respondsWithin (op := .read false) hb hr h
  | stop => exact exec_stop_of_not_busy hb ▸ RespondsWithin.of_env_eq hb rfl
  | status =>
    exact exec_status_of_not_busy hb ▸ RespondsWithin.of_env_eq ((respondStatus_busy _ s).trans hb)
      (respondStatus_env _ s)
  | wakeup => exact exec_wakeup_of_not_busy hb ▸ runFramer_respondsWithin hb hv h .wakeup
  | readreg r =>
    exact exec_readreg_of_not_busy hb r ▸ runFramer_respondsWithin (s := { s with freg := r }) hb hv h .readreg

end Sys2Proof.Machine
end
